-- ==== Sys2Proof/Word.lean ====
section
/-!
DEFINITION. The word types of the block: the 8-bit byte and the 16-bit address
(00_scope R7, rows DATA_W, INDEX_W and ADDR_W).
-/
namespace Sys2Proof

/-- A byte of memory, an opcode byte, or the value of an index register (R7: 8 bits). -/
abbrev Byte := BitVec 8

/-- A 16-bit address; `+` on it is modulo 2^16 (R7, R9). -/
abbrev Addr := BitVec 16

/-- A word of the decode ROM (R62: 18 bits). -/
abbrev RomWord := BitVec 18

end Sys2Proof
end

