-- ==== Sys2Proof/Config.lean ====
section
/-!
DEFINITION. What this implementation fixes: the parameter values of 00_scope R7, and the two choices
the model makes where the spec gives no value (what an unlisted memory byte reads as, and the values
the inputs hold in the reset state). No value of the block is left free: the spec gives the one
undefined value, the address of Accumulator and Implied, no number at all (R164), and the model
writes it as an absent value.
-/
namespace Sys2Proof.Config

/-- The number of addresses of the one address space (R7 `ADDR_W`, R29). -/
def addressSpace : Nat := 65536

/-- The number of opcode values with an InstructionSpec (R7 `OPCODES_DEFINED`). -/
def opcodesDefined : Nat := 151

/-- The number of opcode values that give `UnknownOpcode` (R7 `OPCODES_UNDEFINED`, R64). -/
def opcodesUndefined : Nat := 105

/-- The base cycle count of every branch-class opcode (R7 `BRANCH_BASE_CYCLES`, R78). -/
def branchBaseCycles : Nat := 2

/-- The most memory reads of one evaluation (R7 `MAX_READS`, R39, R153). -/
def maxReads : Nat := 5

/-- What an address that memory does not list reads as. The port answers every address (R51) and
the spec gives no contents, so the byte is the model's: DESIGN CHOICE 0x00, unsafe for a claim
about memory the caller has not filled (log 7). -/
def unlistedByte : Byte := 0x00#8

/-- `PC` in the reset state; the spec gives none (R186, R188): DESIGN CHOICE, unsafe (log 4). -/
def resetPc : Addr := 0x0000#16

/-- `X` and `Y` in the reset state; the spec gives none (R186): DESIGN CHOICE, unsafe (log 5). -/
def resetIndex : Byte := 0x00#8

/-- `BT` in the reset state; it has no reset value (R186): DESIGN CHOICE, unsafe (log 6). -/
def resetBranchTaken : Bool := false

end Sys2Proof.Config
end

