-- ==== Sys2Proof/Syntax.lean ====
section
/-!
DEFINITION. The syntax of the block's instructions: the 13 addressing modes (30_encoding R58), the 56
mnemonics (R59), the operand forms (R53), and ONE constructor of `Instr` for each of the 151 rows of
spec/opcode_table.json (R63). A constructor's name is its mnemonic and, where the mnemonic has several
modes or an operand address, its mode: Acc, Imm, Zp, ZpX, ZpY, Abs, AbsX, AbsY, Ind, IndX, IndY.
-/
namespace Sys2Proof

/-- The addressing modes, in the source's order; the mode code is the position (R58). -/
inductive Mode where
  | accumulator
  | absolute
  | absoluteX
  | absoluteY
  | immediate
  | implied
  | indirect
  | indirectX
  | indirectY
  | relative
  | zeropage
  | zeropageX
  | zeropageY
deriving DecidableEq, Repr

/-- The mnemonics in alphabetical order; the mnemonic code is the position (R59). -/
inductive Mnemonic where
  | ADC | AND | ASL | BCC | BCS | BEQ | BIT | BMI | BNE | BPL | BRK | BVC | BVS | CLC | CLD
  | CLI | CLV | CMP | CPX | CPY | DEC | DEX | DEY | EOR | INC | INX | INY | JMP | JSR | LDA
  | LDX | LDY | LSR | NOP | ORA | PHA | PHP | PLA | PLP | ROL | ROR | RTI | RTS | SBC | SEC
  | SED | SEI | STA | STX | STY | TAX | TAY | TSX | TXA | TXS | TYA
deriving DecidableEq, Repr

/-- The operand of an instruction, before any index is added (R53 to R57). -/
inductive Operand where
  /-- no operand byte (Accumulator, Implied) -/
  | none
  /-- one unsigned byte: a literal, a zero-page address or a zero-page pointer (R54, R57) -/
  | byte (b : Byte)
  /-- one signed byte, the branch offset (R56) -/
  | offset (o : Int)
  /-- two bytes, the little-endian address or pointer `256 * h + l` (R55) -/
  | word (w : Addr)
deriving DecidableEq, Repr

/-- The instructions: one constructor for each row of the opcode table (R63). `imm` is the literal of
Immediate, `zp` a zero-page byte, `addr` a 16-bit operand, `off` the signed branch offset. -/
inductive Instr where
  -- load and store (41_load_store.md)
  | ldaIndX (zp : Byte)
  | ldaZp (zp : Byte)
  | ldaImm (imm : Byte)
  | ldaAbs (addr : Addr)
  | ldaIndY (zp : Byte)
  | ldaZpX (zp : Byte)
  | ldaAbsY (addr : Addr)
  | ldaAbsX (addr : Addr)
  | ldxImm (imm : Byte)
  | ldxZp (zp : Byte)
  | ldxAbs (addr : Addr)
  | ldxZpY (zp : Byte)
  | ldxAbsY (addr : Addr)
  | ldyImm (imm : Byte)
  | ldyZp (zp : Byte)
  | ldyAbs (addr : Addr)
  | ldyZpX (zp : Byte)
  | ldyAbsX (addr : Addr)
  | staIndX (zp : Byte)
  | staZp (zp : Byte)
  | staAbs (addr : Addr)
  | staIndY (zp : Byte)
  | staZpX (zp : Byte)
  | staAbsY (addr : Addr)
  | staAbsX (addr : Addr)
  | stxZp (zp : Byte)
  | stxAbs (addr : Addr)
  | stxZpY (zp : Byte)
  | styZp (zp : Byte)
  | styAbs (addr : Addr)
  | styZpX (zp : Byte)
  -- register-transfer and stack (42_transfer_stack.md)
  | tax
  | tay
  | tsx
  | txa
  | txs
  | tya
  | pha
  | php
  | pla
  | plp
  -- arithmetic, logic, compare and bit test (43_alu.md)
  | adcIndX (zp : Byte)
  | adcZp (zp : Byte)
  | adcImm (imm : Byte)
  | adcAbs (addr : Addr)
  | adcIndY (zp : Byte)
  | adcZpX (zp : Byte)
  | adcAbsY (addr : Addr)
  | adcAbsX (addr : Addr)
  | sbcIndX (zp : Byte)
  | sbcZp (zp : Byte)
  | sbcImm (imm : Byte)
  | sbcAbs (addr : Addr)
  | sbcIndY (zp : Byte)
  | sbcZpX (zp : Byte)
  | sbcAbsY (addr : Addr)
  | sbcAbsX (addr : Addr)
  | andIndX (zp : Byte)
  | andZp (zp : Byte)
  | andImm (imm : Byte)
  | andAbs (addr : Addr)
  | andIndY (zp : Byte)
  | andZpX (zp : Byte)
  | andAbsY (addr : Addr)
  | andAbsX (addr : Addr)
  | oraIndX (zp : Byte)
  | oraZp (zp : Byte)
  | oraImm (imm : Byte)
  | oraAbs (addr : Addr)
  | oraIndY (zp : Byte)
  | oraZpX (zp : Byte)
  | oraAbsY (addr : Addr)
  | oraAbsX (addr : Addr)
  | eorIndX (zp : Byte)
  | eorZp (zp : Byte)
  | eorImm (imm : Byte)
  | eorAbs (addr : Addr)
  | eorIndY (zp : Byte)
  | eorZpX (zp : Byte)
  | eorAbsY (addr : Addr)
  | eorAbsX (addr : Addr)
  | cmpIndX (zp : Byte)
  | cmpZp (zp : Byte)
  | cmpImm (imm : Byte)
  | cmpAbs (addr : Addr)
  | cmpIndY (zp : Byte)
  | cmpZpX (zp : Byte)
  | cmpAbsY (addr : Addr)
  | cmpAbsX (addr : Addr)
  | cpxImm (imm : Byte)
  | cpxZp (zp : Byte)
  | cpxAbs (addr : Addr)
  | cpyImm (imm : Byte)
  | cpyZp (zp : Byte)
  | cpyAbs (addr : Addr)
  | bitZp (zp : Byte)
  | bitAbs (addr : Addr)
  -- shift, rotate, increment and decrement (44_shift_incdec.md)
  | aslZp (zp : Byte)
  | aslAcc
  | aslAbs (addr : Addr)
  | aslZpX (zp : Byte)
  | aslAbsX (addr : Addr)
  | lsrZp (zp : Byte)
  | lsrAcc
  | lsrAbs (addr : Addr)
  | lsrZpX (zp : Byte)
  | lsrAbsX (addr : Addr)
  | rolZp (zp : Byte)
  | rolAcc
  | rolAbs (addr : Addr)
  | rolZpX (zp : Byte)
  | rolAbsX (addr : Addr)
  | rorZp (zp : Byte)
  | rorAcc
  | rorAbs (addr : Addr)
  | rorZpX (zp : Byte)
  | rorAbsX (addr : Addr)
  | incZp (zp : Byte)
  | incAbs (addr : Addr)
  | incZpX (zp : Byte)
  | incAbsX (addr : Addr)
  | decZp (zp : Byte)
  | decAbs (addr : Addr)
  | decZpX (zp : Byte)
  | decAbsX (addr : Addr)
  | inx
  | iny
  | dex
  | dey
  -- branch, jump, subroutine, return and break (45_control.md)
  | bpl (off : Int)
  | bmi (off : Int)
  | bvc (off : Int)
  | bvs (off : Int)
  | bcc (off : Int)
  | bcs (off : Int)
  | bne (off : Int)
  | beq (off : Int)
  | jmpAbs (addr : Addr)
  | jmpInd (addr : Addr)
  | jsrAbs (addr : Addr)
  | rts
  | rti
  | brk
  -- flag and no-operation (46_flags_nop.md)
  | clc
  | sec
  | cli
  | sei
  | cld
  | sed
  | clv
  | nop
deriving DecidableEq, Repr

/-- The operand an instruction carries (R53). -/
def Instr.operand : Instr → Operand
  | .ldaIndX zp => .byte zp
  | .ldaZp zp => .byte zp
  | .ldaImm imm => .byte imm
  | .ldaAbs addr => .word addr
  | .ldaIndY zp => .byte zp
  | .ldaZpX zp => .byte zp
  | .ldaAbsY addr => .word addr
  | .ldaAbsX addr => .word addr
  | .ldxImm imm => .byte imm
  | .ldxZp zp => .byte zp
  | .ldxAbs addr => .word addr
  | .ldxZpY zp => .byte zp
  | .ldxAbsY addr => .word addr
  | .ldyImm imm => .byte imm
  | .ldyZp zp => .byte zp
  | .ldyAbs addr => .word addr
  | .ldyZpX zp => .byte zp
  | .ldyAbsX addr => .word addr
  | .staIndX zp => .byte zp
  | .staZp zp => .byte zp
  | .staAbs addr => .word addr
  | .staIndY zp => .byte zp
  | .staZpX zp => .byte zp
  | .staAbsY addr => .word addr
  | .staAbsX addr => .word addr
  | .stxZp zp => .byte zp
  | .stxAbs addr => .word addr
  | .stxZpY zp => .byte zp
  | .styZp zp => .byte zp
  | .styAbs addr => .word addr
  | .styZpX zp => .byte zp
  | .tax => .none
  | .tay => .none
  | .tsx => .none
  | .txa => .none
  | .txs => .none
  | .tya => .none
  | .pha => .none
  | .php => .none
  | .pla => .none
  | .plp => .none
  | .adcIndX zp => .byte zp
  | .adcZp zp => .byte zp
  | .adcImm imm => .byte imm
  | .adcAbs addr => .word addr
  | .adcIndY zp => .byte zp
  | .adcZpX zp => .byte zp
  | .adcAbsY addr => .word addr
  | .adcAbsX addr => .word addr
  | .sbcIndX zp => .byte zp
  | .sbcZp zp => .byte zp
  | .sbcImm imm => .byte imm
  | .sbcAbs addr => .word addr
  | .sbcIndY zp => .byte zp
  | .sbcZpX zp => .byte zp
  | .sbcAbsY addr => .word addr
  | .sbcAbsX addr => .word addr
  | .andIndX zp => .byte zp
  | .andZp zp => .byte zp
  | .andImm imm => .byte imm
  | .andAbs addr => .word addr
  | .andIndY zp => .byte zp
  | .andZpX zp => .byte zp
  | .andAbsY addr => .word addr
  | .andAbsX addr => .word addr
  | .oraIndX zp => .byte zp
  | .oraZp zp => .byte zp
  | .oraImm imm => .byte imm
  | .oraAbs addr => .word addr
  | .oraIndY zp => .byte zp
  | .oraZpX zp => .byte zp
  | .oraAbsY addr => .word addr
  | .oraAbsX addr => .word addr
  | .eorIndX zp => .byte zp
  | .eorZp zp => .byte zp
  | .eorImm imm => .byte imm
  | .eorAbs addr => .word addr
  | .eorIndY zp => .byte zp
  | .eorZpX zp => .byte zp
  | .eorAbsY addr => .word addr
  | .eorAbsX addr => .word addr
  | .cmpIndX zp => .byte zp
  | .cmpZp zp => .byte zp
  | .cmpImm imm => .byte imm
  | .cmpAbs addr => .word addr
  | .cmpIndY zp => .byte zp
  | .cmpZpX zp => .byte zp
  | .cmpAbsY addr => .word addr
  | .cmpAbsX addr => .word addr
  | .cpxImm imm => .byte imm
  | .cpxZp zp => .byte zp
  | .cpxAbs addr => .word addr
  | .cpyImm imm => .byte imm
  | .cpyZp zp => .byte zp
  | .cpyAbs addr => .word addr
  | .bitZp zp => .byte zp
  | .bitAbs addr => .word addr
  | .aslZp zp => .byte zp
  | .aslAcc => .none
  | .aslAbs addr => .word addr
  | .aslZpX zp => .byte zp
  | .aslAbsX addr => .word addr
  | .lsrZp zp => .byte zp
  | .lsrAcc => .none
  | .lsrAbs addr => .word addr
  | .lsrZpX zp => .byte zp
  | .lsrAbsX addr => .word addr
  | .rolZp zp => .byte zp
  | .rolAcc => .none
  | .rolAbs addr => .word addr
  | .rolZpX zp => .byte zp
  | .rolAbsX addr => .word addr
  | .rorZp zp => .byte zp
  | .rorAcc => .none
  | .rorAbs addr => .word addr
  | .rorZpX zp => .byte zp
  | .rorAbsX addr => .word addr
  | .incZp zp => .byte zp
  | .incAbs addr => .word addr
  | .incZpX zp => .byte zp
  | .incAbsX addr => .word addr
  | .decZp zp => .byte zp
  | .decAbs addr => .word addr
  | .decZpX zp => .byte zp
  | .decAbsX addr => .word addr
  | .inx => .none
  | .iny => .none
  | .dex => .none
  | .dey => .none
  | .bpl off => .offset off
  | .bmi off => .offset off
  | .bvc off => .offset off
  | .bvs off => .offset off
  | .bcc off => .offset off
  | .bcs off => .offset off
  | .bne off => .offset off
  | .beq off => .offset off
  | .jmpAbs addr => .word addr
  | .jmpInd addr => .word addr
  | .jsrAbs addr => .word addr
  | .rts => .none
  | .rti => .none
  | .brk => .none
  | .clc => .none
  | .sec => .none
  | .cli => .none
  | .sei => .none
  | .cld => .none
  | .sed => .none
  | .clv => .none
  | .nop => .none

end Sys2Proof
end

