-- ==== Sys2Proof/WellFormed.lean ====
section
/-!
DEFINITION. Which terms of `Instr` stand for an instruction the encoding can hold. A byte and an
address are the full width of their operand field (R53), so every value of them is an instruction's;
the branch offset is a signed byte, -128 to +127 (30_encoding R56, R67).
-/
namespace Sys2Proof

/-- The signed offset fits the Relative operand byte: -128 to +127 (R56). -/
def offsetFits (o : Int) : Bool := decide (-128 ≤ o) && decide (o ≤ 127)

/-- An operand whose value its field of the encoding can hold. -/
def Operand.fits : Operand → Bool
  | .none => true
  | .byte _ => true
  | .offset o => offsetFits o
  | .word _ => true

/-- A well-formed instruction: its operand fits its encoding. -/
def Instr.wellFormed (i : Instr) : Bool := i.operand.fits

end Sys2Proof
end

