-- ==== Sys2Proof/Decode.lean ====
section
/-!
DEFINITION. The decoder, total on any bytes, and after it the encoder, both written from the opcode map
of 30_encoding R63 and the operand layouts of R53. The opcode byte alone selects the instruction (R52,
R61); an opcode value outside the 151 of R63 is rejected as `UnknownOpcode` (R65), never read as
another instruction. The decoder here reads syntax; the ROM the hardware looks up is Machine/Rom.lean.
-/
namespace Sys2Proof

/-- Bits 7:0 of a word (R8). -/
def lo8 (w : Addr) : Byte := w.extractLsb' 0 8

/-- Bits 15:8 of a word, the page number of an address (R8, R42). -/
def hi8 (w : Addr) : Byte := w.extractLsb' 8 8

/-- The little-endian word of two bytes: `zext_16(l) | (zext_16(h) << 8)` (R10, R32). -/
def word16 (l h : Byte) : Addr := l.setWidth 16 ||| (h.setWidth 16 <<< 8)

/-- Why bytes are no instruction. -/
inductive DecodeError where
  /-- there is no byte at all, so no opcode -/
  | noOpcode
  /-- the opcode byte is one of the 105 undefined values (R64, R65) -/
  | unknownOpcode (op : Byte)
  /-- the opcode is defined and its operand bytes are not all there; DESIGN CHOICE (log 21): the
  hardware never meets this, its memory has no end (R24) -/
  | truncated (op : Byte)
deriving DecidableEq, Repr

/-! ## The opcode map of R63

One function for each row of the map (the high nibble of the opcode); its argument is the column (the low
nibble). A cell the map marks `—` is an undefined opcode value and answers none. -/

/-- Row 0x of the map (R63). -/
def decodeRow0 (col : Nat) (b1 b2 : Byte) : Option Instr :=
  match col with
  | 0x0 => some .brk
  | 0x1 => some (.oraIndX b1)
  | 0x5 => some (.oraZp b1)
  | 0x6 => some (.aslZp b1)
  | 0x8 => some .php
  | 0x9 => some (.oraImm b1)
  | 0xA => some .aslAcc
  | 0xD => some (.oraAbs (word16 b1 b2))
  | 0xE => some (.aslAbs (word16 b1 b2))
  | _ => none

/-- Row 1x of the map (R63). -/
def decodeRow1 (col : Nat) (b1 b2 : Byte) : Option Instr :=
  match col with
  | 0x0 => some (.bpl b1.toInt)
  | 0x1 => some (.oraIndY b1)
  | 0x5 => some (.oraZpX b1)
  | 0x6 => some (.aslZpX b1)
  | 0x8 => some .clc
  | 0x9 => some (.oraAbsY (word16 b1 b2))
  | 0xD => some (.oraAbsX (word16 b1 b2))
  | 0xE => some (.aslAbsX (word16 b1 b2))
  | _ => none

/-- Row 2x of the map (R63). -/
def decodeRow2 (col : Nat) (b1 b2 : Byte) : Option Instr :=
  match col with
  | 0x0 => some (.jsrAbs (word16 b1 b2))
  | 0x1 => some (.andIndX b1)
  | 0x4 => some (.bitZp b1)
  | 0x5 => some (.andZp b1)
  | 0x6 => some (.rolZp b1)
  | 0x8 => some .plp
  | 0x9 => some (.andImm b1)
  | 0xA => some .rolAcc
  | 0xC => some (.bitAbs (word16 b1 b2))
  | 0xD => some (.andAbs (word16 b1 b2))
  | 0xE => some (.rolAbs (word16 b1 b2))
  | _ => none

/-- Row 3x of the map (R63). -/
def decodeRow3 (col : Nat) (b1 b2 : Byte) : Option Instr :=
  match col with
  | 0x0 => some (.bmi b1.toInt)
  | 0x1 => some (.andIndY b1)
  | 0x5 => some (.andZpX b1)
  | 0x6 => some (.rolZpX b1)
  | 0x8 => some .sec
  | 0x9 => some (.andAbsY (word16 b1 b2))
  | 0xD => some (.andAbsX (word16 b1 b2))
  | 0xE => some (.rolAbsX (word16 b1 b2))
  | _ => none

/-- Row 4x of the map (R63). -/
def decodeRow4 (col : Nat) (b1 b2 : Byte) : Option Instr :=
  match col with
  | 0x0 => some .rti
  | 0x1 => some (.eorIndX b1)
  | 0x5 => some (.eorZp b1)
  | 0x6 => some (.lsrZp b1)
  | 0x8 => some .pha
  | 0x9 => some (.eorImm b1)
  | 0xA => some .lsrAcc
  | 0xC => some (.jmpAbs (word16 b1 b2))
  | 0xD => some (.eorAbs (word16 b1 b2))
  | 0xE => some (.lsrAbs (word16 b1 b2))
  | _ => none

/-- Row 5x of the map (R63). -/
def decodeRow5 (col : Nat) (b1 b2 : Byte) : Option Instr :=
  match col with
  | 0x0 => some (.bvc b1.toInt)
  | 0x1 => some (.eorIndY b1)
  | 0x5 => some (.eorZpX b1)
  | 0x6 => some (.lsrZpX b1)
  | 0x8 => some .cli
  | 0x9 => some (.eorAbsY (word16 b1 b2))
  | 0xD => some (.eorAbsX (word16 b1 b2))
  | 0xE => some (.lsrAbsX (word16 b1 b2))
  | _ => none

/-- Row 6x of the map (R63). -/
def decodeRow6 (col : Nat) (b1 b2 : Byte) : Option Instr :=
  match col with
  | 0x0 => some .rts
  | 0x1 => some (.adcIndX b1)
  | 0x5 => some (.adcZp b1)
  | 0x6 => some (.rorZp b1)
  | 0x8 => some .pla
  | 0x9 => some (.adcImm b1)
  | 0xA => some .rorAcc
  | 0xC => some (.jmpInd (word16 b1 b2))
  | 0xD => some (.adcAbs (word16 b1 b2))
  | 0xE => some (.rorAbs (word16 b1 b2))
  | _ => none

/-- Row 7x of the map (R63). -/
def decodeRow7 (col : Nat) (b1 b2 : Byte) : Option Instr :=
  match col with
  | 0x0 => some (.bvs b1.toInt)
  | 0x1 => some (.adcIndY b1)
  | 0x5 => some (.adcZpX b1)
  | 0x6 => some (.rorZpX b1)
  | 0x8 => some .sei
  | 0x9 => some (.adcAbsY (word16 b1 b2))
  | 0xD => some (.adcAbsX (word16 b1 b2))
  | 0xE => some (.rorAbsX (word16 b1 b2))
  | _ => none

/-- Row 8x of the map (R63). -/
def decodeRow8 (col : Nat) (b1 b2 : Byte) : Option Instr :=
  match col with
  | 0x1 => some (.staIndX b1)
  | 0x4 => some (.styZp b1)
  | 0x5 => some (.staZp b1)
  | 0x6 => some (.stxZp b1)
  | 0x8 => some .dey
  | 0xA => some .txa
  | 0xC => some (.styAbs (word16 b1 b2))
  | 0xD => some (.staAbs (word16 b1 b2))
  | 0xE => some (.stxAbs (word16 b1 b2))
  | _ => none

/-- Row 9x of the map (R63). -/
def decodeRow9 (col : Nat) (b1 b2 : Byte) : Option Instr :=
  match col with
  | 0x0 => some (.bcc b1.toInt)
  | 0x1 => some (.staIndY b1)
  | 0x4 => some (.styZpX b1)
  | 0x5 => some (.staZpX b1)
  | 0x6 => some (.stxZpY b1)
  | 0x8 => some .tya
  | 0x9 => some (.staAbsY (word16 b1 b2))
  | 0xA => some .txs
  | 0xD => some (.staAbsX (word16 b1 b2))
  | _ => none

/-- Row Ax of the map (R63). -/
def decodeRowA (col : Nat) (b1 b2 : Byte) : Option Instr :=
  match col with
  | 0x0 => some (.ldyImm b1)
  | 0x1 => some (.ldaIndX b1)
  | 0x2 => some (.ldxImm b1)
  | 0x4 => some (.ldyZp b1)
  | 0x5 => some (.ldaZp b1)
  | 0x6 => some (.ldxZp b1)
  | 0x8 => some .tay
  | 0x9 => some (.ldaImm b1)
  | 0xA => some .tax
  | 0xC => some (.ldyAbs (word16 b1 b2))
  | 0xD => some (.ldaAbs (word16 b1 b2))
  | 0xE => some (.ldxAbs (word16 b1 b2))
  | _ => none

/-- Row Bx of the map (R63). -/
def decodeRowB (col : Nat) (b1 b2 : Byte) : Option Instr :=
  match col with
  | 0x0 => some (.bcs b1.toInt)
  | 0x1 => some (.ldaIndY b1)
  | 0x4 => some (.ldyZpX b1)
  | 0x5 => some (.ldaZpX b1)
  | 0x6 => some (.ldxZpY b1)
  | 0x8 => some .clv
  | 0x9 => some (.ldaAbsY (word16 b1 b2))
  | 0xA => some .tsx
  | 0xC => some (.ldyAbsX (word16 b1 b2))
  | 0xD => some (.ldaAbsX (word16 b1 b2))
  | 0xE => some (.ldxAbsY (word16 b1 b2))
  | _ => none

/-- Row Cx of the map (R63). -/
def decodeRowC (col : Nat) (b1 b2 : Byte) : Option Instr :=
  match col with
  | 0x0 => some (.cpyImm b1)
  | 0x1 => some (.cmpIndX b1)
  | 0x4 => some (.cpyZp b1)
  | 0x5 => some (.cmpZp b1)
  | 0x6 => some (.decZp b1)
  | 0x8 => some .iny
  | 0x9 => some (.cmpImm b1)
  | 0xA => some .dex
  | 0xC => some (.cpyAbs (word16 b1 b2))
  | 0xD => some (.cmpAbs (word16 b1 b2))
  | 0xE => some (.decAbs (word16 b1 b2))
  | _ => none

/-- Row Dx of the map (R63). -/
def decodeRowD (col : Nat) (b1 b2 : Byte) : Option Instr :=
  match col with
  | 0x0 => some (.bne b1.toInt)
  | 0x1 => some (.cmpIndY b1)
  | 0x5 => some (.cmpZpX b1)
  | 0x6 => some (.decZpX b1)
  | 0x8 => some .cld
  | 0x9 => some (.cmpAbsY (word16 b1 b2))
  | 0xD => some (.cmpAbsX (word16 b1 b2))
  | 0xE => some (.decAbsX (word16 b1 b2))
  | _ => none

/-- Row Ex of the map (R63). -/
def decodeRowE (col : Nat) (b1 b2 : Byte) : Option Instr :=
  match col with
  | 0x0 => some (.cpxImm b1)
  | 0x1 => some (.sbcIndX b1)
  | 0x4 => some (.cpxZp b1)
  | 0x5 => some (.sbcZp b1)
  | 0x6 => some (.incZp b1)
  | 0x8 => some .inx
  | 0x9 => some (.sbcImm b1)
  | 0xA => some .nop
  | 0xC => some (.cpxAbs (word16 b1 b2))
  | 0xD => some (.sbcAbs (word16 b1 b2))
  | 0xE => some (.incAbs (word16 b1 b2))
  | _ => none

/-- Row Fx of the map (R63). -/
def decodeRowF (col : Nat) (b1 b2 : Byte) : Option Instr :=
  match col with
  | 0x0 => some (.beq b1.toInt)
  | 0x1 => some (.sbcIndY b1)
  | 0x5 => some (.sbcZpX b1)
  | 0x6 => some (.incZpX b1)
  | 0x8 => some .sed
  | 0x9 => some (.sbcAbsY (word16 b1 b2))
  | 0xD => some (.sbcAbsX (word16 b1 b2))
  | 0xE => some (.incAbsX (word16 b1 b2))
  | _ => none

/-- The instruction of an opcode byte and the two bytes after it; a mode with fewer operand bytes
ignores the rest. `none` exactly for an undefined opcode value. -/
def decodeInstr (op b1 b2 : Byte) : Option Instr :=
  match op.toNat / 16 with
  | 0x0 => decodeRow0 (op.toNat % 16) b1 b2
  | 0x1 => decodeRow1 (op.toNat % 16) b1 b2
  | 0x2 => decodeRow2 (op.toNat % 16) b1 b2
  | 0x3 => decodeRow3 (op.toNat % 16) b1 b2
  | 0x4 => decodeRow4 (op.toNat % 16) b1 b2
  | 0x5 => decodeRow5 (op.toNat % 16) b1 b2
  | 0x6 => decodeRow6 (op.toNat % 16) b1 b2
  | 0x7 => decodeRow7 (op.toNat % 16) b1 b2
  | 0x8 => decodeRow8 (op.toNat % 16) b1 b2
  | 0x9 => decodeRow9 (op.toNat % 16) b1 b2
  | 0xA => decodeRowA (op.toNat % 16) b1 b2
  | 0xB => decodeRowB (op.toNat % 16) b1 b2
  | 0xC => decodeRowC (op.toNat % 16) b1 b2
  | 0xD => decodeRowD (op.toNat % 16) b1 b2
  | 0xE => decodeRowE (op.toNat % 16) b1 b2
  | 0xF => decodeRowF (op.toNat % 16) b1 b2
  | _ => none

/-- The opcode byte of an instruction (R63). -/
def Instr.opcode : Instr → Byte
  | .ldaIndX _ => 0xA1#8
  | .ldaZp _ => 0xA5#8
  | .ldaImm _ => 0xA9#8
  | .ldaAbs _ => 0xAD#8
  | .ldaIndY _ => 0xB1#8
  | .ldaZpX _ => 0xB5#8
  | .ldaAbsY _ => 0xB9#8
  | .ldaAbsX _ => 0xBD#8
  | .ldxImm _ => 0xA2#8
  | .ldxZp _ => 0xA6#8
  | .ldxAbs _ => 0xAE#8
  | .ldxZpY _ => 0xB6#8
  | .ldxAbsY _ => 0xBE#8
  | .ldyImm _ => 0xA0#8
  | .ldyZp _ => 0xA4#8
  | .ldyAbs _ => 0xAC#8
  | .ldyZpX _ => 0xB4#8
  | .ldyAbsX _ => 0xBC#8
  | .staIndX _ => 0x81#8
  | .staZp _ => 0x85#8
  | .staAbs _ => 0x8D#8
  | .staIndY _ => 0x91#8
  | .staZpX _ => 0x95#8
  | .staAbsY _ => 0x99#8
  | .staAbsX _ => 0x9D#8
  | .stxZp _ => 0x86#8
  | .stxAbs _ => 0x8E#8
  | .stxZpY _ => 0x96#8
  | .styZp _ => 0x84#8
  | .styAbs _ => 0x8C#8
  | .styZpX _ => 0x94#8
  | .tax => 0xAA#8
  | .tay => 0xA8#8
  | .tsx => 0xBA#8
  | .txa => 0x8A#8
  | .txs => 0x9A#8
  | .tya => 0x98#8
  | .pha => 0x48#8
  | .php => 0x08#8
  | .pla => 0x68#8
  | .plp => 0x28#8
  | .adcIndX _ => 0x61#8
  | .adcZp _ => 0x65#8
  | .adcImm _ => 0x69#8
  | .adcAbs _ => 0x6D#8
  | .adcIndY _ => 0x71#8
  | .adcZpX _ => 0x75#8
  | .adcAbsY _ => 0x79#8
  | .adcAbsX _ => 0x7D#8
  | .sbcIndX _ => 0xE1#8
  | .sbcZp _ => 0xE5#8
  | .sbcImm _ => 0xE9#8
  | .sbcAbs _ => 0xED#8
  | .sbcIndY _ => 0xF1#8
  | .sbcZpX _ => 0xF5#8
  | .sbcAbsY _ => 0xF9#8
  | .sbcAbsX _ => 0xFD#8
  | .andIndX _ => 0x21#8
  | .andZp _ => 0x25#8
  | .andImm _ => 0x29#8
  | .andAbs _ => 0x2D#8
  | .andIndY _ => 0x31#8
  | .andZpX _ => 0x35#8
  | .andAbsY _ => 0x39#8
  | .andAbsX _ => 0x3D#8
  | .oraIndX _ => 0x01#8
  | .oraZp _ => 0x05#8
  | .oraImm _ => 0x09#8
  | .oraAbs _ => 0x0D#8
  | .oraIndY _ => 0x11#8
  | .oraZpX _ => 0x15#8
  | .oraAbsY _ => 0x19#8
  | .oraAbsX _ => 0x1D#8
  | .eorIndX _ => 0x41#8
  | .eorZp _ => 0x45#8
  | .eorImm _ => 0x49#8
  | .eorAbs _ => 0x4D#8
  | .eorIndY _ => 0x51#8
  | .eorZpX _ => 0x55#8
  | .eorAbsY _ => 0x59#8
  | .eorAbsX _ => 0x5D#8
  | .cmpIndX _ => 0xC1#8
  | .cmpZp _ => 0xC5#8
  | .cmpImm _ => 0xC9#8
  | .cmpAbs _ => 0xCD#8
  | .cmpIndY _ => 0xD1#8
  | .cmpZpX _ => 0xD5#8
  | .cmpAbsY _ => 0xD9#8
  | .cmpAbsX _ => 0xDD#8
  | .cpxImm _ => 0xE0#8
  | .cpxZp _ => 0xE4#8
  | .cpxAbs _ => 0xEC#8
  | .cpyImm _ => 0xC0#8
  | .cpyZp _ => 0xC4#8
  | .cpyAbs _ => 0xCC#8
  | .bitZp _ => 0x24#8
  | .bitAbs _ => 0x2C#8
  | .aslZp _ => 0x06#8
  | .aslAcc => 0x0A#8
  | .aslAbs _ => 0x0E#8
  | .aslZpX _ => 0x16#8
  | .aslAbsX _ => 0x1E#8
  | .lsrZp _ => 0x46#8
  | .lsrAcc => 0x4A#8
  | .lsrAbs _ => 0x4E#8
  | .lsrZpX _ => 0x56#8
  | .lsrAbsX _ => 0x5E#8
  | .rolZp _ => 0x26#8
  | .rolAcc => 0x2A#8
  | .rolAbs _ => 0x2E#8
  | .rolZpX _ => 0x36#8
  | .rolAbsX _ => 0x3E#8
  | .rorZp _ => 0x66#8
  | .rorAcc => 0x6A#8
  | .rorAbs _ => 0x6E#8
  | .rorZpX _ => 0x76#8
  | .rorAbsX _ => 0x7E#8
  | .incZp _ => 0xE6#8
  | .incAbs _ => 0xEE#8
  | .incZpX _ => 0xF6#8
  | .incAbsX _ => 0xFE#8
  | .decZp _ => 0xC6#8
  | .decAbs _ => 0xCE#8
  | .decZpX _ => 0xD6#8
  | .decAbsX _ => 0xDE#8
  | .inx => 0xE8#8
  | .iny => 0xC8#8
  | .dex => 0xCA#8
  | .dey => 0x88#8
  | .bpl _ => 0x10#8
  | .bmi _ => 0x30#8
  | .bvc _ => 0x50#8
  | .bvs _ => 0x70#8
  | .bcc _ => 0x90#8
  | .bcs _ => 0xB0#8
  | .bne _ => 0xD0#8
  | .beq _ => 0xF0#8
  | .jmpAbs _ => 0x4C#8
  | .jmpInd _ => 0x6C#8
  | .jsrAbs _ => 0x20#8
  | .rts => 0x60#8
  | .rti => 0x40#8
  | .brk => 0x00#8
  | .clc => 0x18#8
  | .sec => 0x38#8
  | .cli => 0x58#8
  | .sei => 0x78#8
  | .cld => 0xD8#8
  | .sed => 0xF8#8
  | .clv => 0xB8#8
  | .nop => 0xEA#8

/-- The first operand byte (at `PC + 1`), where the form has one; 0 stands where it has none and is
never used. -/
def Operand.first : Operand → Byte
  | .none => 0#8
  | .byte b => b
  | .offset o => BitVec.ofInt 8 o
  | .word w => lo8 w

/-- The second operand byte (at `PC + 2`), where the form has one; 0 stands where it has none and is
never used. -/
def Operand.second : Operand → Byte
  | .none => 0#8
  | .byte _ => 0#8
  | .offset _ => 0#8
  | .word w => hi8 w

/-- The operand bytes of an encoding, in address order (R53, R55). -/
def Operand.bytes : Operand → List Byte
  | .none => []
  | .byte b => [b]
  | .offset o => [BitVec.ofInt 8 o]
  | .word w => [lo8 w, hi8 w]

/-- The bytes of an instruction: the opcode byte, then its operand bytes (R52). -/
def encode (i : Instr) : List Byte := i.opcode :: i.operand.bytes

/-- Decode the instruction at the front of a list of bytes, giving it and the bytes after it; an
opcode byte that is undefined, or operand bytes that are missing, are rejected by name. -/
def decodeBytes : List Byte → Except DecodeError (Instr × List Byte)
  | [] => .error .noOpcode
  | op :: rest =>
    match decodeInstr op (rest.getD 0 0#8) (rest.getD 1 0#8) with
    | none => .error (.unknownOpcode op)
    | some i =>
      if rest.length < i.operand.bytes.length then .error (.truncated op)
      else .ok (i, rest.drop i.operand.bytes.length)

/-- Byte `k` of the instruction whose bits are `w`, every bit from `nbits` on being 0: byte 0 is the
opcode, the first byte in memory. -/
def tableByte (nbits w k : Nat) : Byte := BitVec.ofNat 8 ((w % 2 ^ nbits) >>> (8 * k))

/-- The instruction the decoder reads from a word numbered as spec/opcode_table.json numbers it. -/
def decodeTableWord (nbits w : Nat) : Option Instr :=
  decodeInstr (tableByte nbits w 0) (tableByte nbits w 1) (tableByte nbits w 2)

end Sys2Proof
end

