-- ==== Sys2Proof/Machine/State.lean ====
section
/-!
DEFINITION. The state of the machine, as plain data. The block has no mutable state of its own (10_state
R15, R28): State holds the five inputs of an evaluation, which no evaluation changes, and the record of
the outputs of the last completed one, which no evaluation reads (log 2, log 3). The decode ROM, the
only content the block holds (R16), is a constant: Machine/Rom.lean (log 1).
-/
namespace Sys2Proof.Machine

/-- The cycle class of an opcode (R60): whether a conditional extra cycle can be owed. -/
inductive CycleClass where
  /-- no conditional extra cycle (R76) -/
  | none
  /-- one extra cycle when the resolver reports a page crossing (R75) -/
  | pageCross
  /-- the taken and taken-with-crossing extras of a conditional branch (R74) -/
  | branch
deriving DecidableEq, Repr

/-- What the decode ROM says of a defined opcode (R70). -/
structure InstructionSpec where
  /-- descriptive only (R73) -/
  mnemonic : Mnemonic
  mode : Mode
  /-- total length in bytes, the opcode byte included: 1 to 3 -/
  size : Nat
  /-- cycles without conditional extras: 2 to 7 -/
  baseCycles : Nat
  cls : CycleClass
deriving DecidableEq, Repr

/-- The record a successful decode outputs (R163). -/
structure DecodedInstruction where
  /-- the byte read at `PC` -/
  opcode : Byte
  spec : InstructionSpec
  /-- the effective address; `none` exactly for Accumulator and Implied (R164) -/
  address : Option Addr
  pageCrossed : Bool
  totalCycles : Nat
deriving DecidableEq, Repr

/-- Memory: the bytes of the 16-bit space that differ from `Config.unlistedByte`, by strictly rising
address (`Memory.wf` in Machine/Ops.lean). Each memory snapshot (R20, R40) is one such list. -/
abbrev Memory := List Host.Cell

/-- The inputs of an evaluation and the record of the last completed one's outputs. -/
structure State where
  /-- input `PC`: the address of the opcode byte (R17) -/
  pc : Addr
  /-- input `X` (R18) -/
  x : Byte
  /-- input `Y` (R18) -/
  y : Byte
  /-- input `BT`: is the conditional branch taken? (R19) -/
  bt : Bool
  /-- the memory snapshot behind the read port (R20, R40) -/
  mem : Memory
  /-- the DecodedInstruction of the last completed evaluation (R21, R163); a record, read by nothing -/
  out : Option DecodedInstruction
  /-- the addresses that evaluation read, in the order of R49; a record, read by nothing -/
  busReads : List Addr
deriving DecidableEq, Repr

/-- Why an evaluation ends in an error. -/
inductive Fault where
  /-- The byte read at `PC` is one of the 105 undefined opcode values (R64). Raised by
  `Machine.step`, at the block's boundary, with nothing changed (R171, R172, R175). Safe: the spec
  gives the caller the choice of what follows (log 9). -/
  | unknownOpcode (op : Byte)
deriving DecidableEq, Repr

/-- Why an evaluation has no meaning in this model. -/
inductive Refusal where
  /-- An instruction that has no meaning yet, named by its mnemonic. No arm of `exec` answers it.
  Safe. -/
  | notModelled (mnemonic : String)
  /-- The ROM word of a defined opcode holds a code that is never stored (R58 to R60, R156, I10). Would
  be raised by `Machine.evaluate`; no word of this ROM holds such a code. Safe (log 11). -/
  | unstoredCode (op : Byte)
deriving DecidableEq, Repr

/-- The state in which a run begins. The block has no reset (R30, R185); the inputs have no reset value
(R186), so those here are the model's (log 4 to log 7), and no evaluation has been made. -/
def State.reset : State where
  pc := Config.resetPc
  x := Config.resetIndex
  y := Config.resetIndex
  bt := Config.resetBranchTaken
  mem := []
  out := none
  busReads := []

end Sys2Proof.Machine
end

