-- ==== Sys2Proof/Machine/Rom.lean ====
section
/-!
DEFINITION. The decode ROM: 256 words of 18 bits, one for each opcode byte (10_state R16, 30_encoding
R62), their contents from the ROM-word columns of 41 to 46 (R63, R81 to R136), the codes of its fields
(R58 to R60), and lookup (40_opcode_rom R69). The rows are the published NMOS 6502 table the spec
supplies (G1, G2; log 22).
-/
namespace Sys2Proof.Machine

/-- The 16 ROM words whose opcode has the high nibble `n` (the rows of the map of R63). -/
def Rom.row : Nat → List RomWord
  | 0 => [0x0EA95#18, 0x0D3C5#18, 0x00000#18, 0x00000#18, 0x00000#18, 0x07545#18, 0x0B505#18, 0x00000#18,
      0x06AC9#18, 0x05245#18, 0x04805#18, 0x00000#18, 0x00000#18, 0x098C5#18, 0x0D885#18, 0x00000#18]
  | 1 => [0x25493#18, 0x1B445#18, 0x00000#18, 0x00000#18, 0x00000#18, 0x095C5#18, 0x0D585#18, 0x00000#18,
      0x04A9B#18, 0x199C5#18, 0x00000#18, 0x00000#18, 0x00000#18, 0x19945#18, 0x0F905#18, 0x00000#18]
  | 2 => [0x0D8B9#18, 0x0D383#18, 0x00000#18, 0x00000#18, 0x0750D#18, 0x07503#18, 0x0B54F#18, 0x00000#18,
      0x08ACD#18, 0x05203#18, 0x0484F#18, 0x00000#18, 0x0988D#18, 0x09883#18, 0x0D8CF#18, 0x00000#18]
  | 3 => [0x2548F#18, 0x1B403#18, 0x00000#18, 0x00000#18, 0x00000#18, 0x09583#18, 0x0D5CF#18, 0x00000#18,
      0x04AD9#18, 0x19983#18, 0x00000#18, 0x00000#18, 0x00000#18, 0x19903#18, 0x0F94F#18, 0x00000#18]
  | 4 => [0x0CAD3#18, 0x0D3AF#18, 0x00000#18, 0x00000#18, 0x00000#18, 0x0752F#18, 0x0B541#18, 0x00000#18,
      0x06AC7#18, 0x0522F#18, 0x04841#18, 0x00000#18, 0x078B7#18, 0x098AF#18, 0x0D8C1#18, 0x00000#18]
  | 5 => [0x25497#18, 0x1B42F#18, 0x00000#18, 0x00000#18, 0x00000#18, 0x095AF#18, 0x0D5C1#18, 0x00000#18,
      0x04A9F#18, 0x199AF#18, 0x00000#18, 0x00000#18, 0x00000#18, 0x1992F#18, 0x0F941#18, 0x00000#18]
  | 6 => [0x0CAD5#18, 0x0D381#18, 0x00000#18, 0x00000#18, 0x00000#18, 0x07501#18, 0x0B551#18, 0x00000#18,
      0x08ACB#18, 0x05201#18, 0x04851#18, 0x00000#18, 0x0BB37#18, 0x09881#18, 0x0D8D1#18, 0x00000#18]
  | 7 => [0x25499#18, 0x1B401#18, 0x00000#18, 0x00000#18, 0x00000#18, 0x09581#18, 0x0D5D1#18, 0x00000#18,
      0x04ADD#18, 0x19981#18, 0x00000#18, 0x00000#18, 0x00000#18, 0x19901#18, 0x0F951#18, 0x00000#18]
  | 8 => [0x00000#18, 0x0D3DF#18, 0x00000#18, 0x00000#18, 0x07563#18, 0x0755F#18, 0x07561#18, 0x00000#18,
      0x04AAD#18, 0x00000#18, 0x04AEB#18, 0x00000#18, 0x098E3#18, 0x098DF#18, 0x098E1#18, 0x00000#18]
  | 9 => [0x25487#18, 0x0D45F#18, 0x00000#18, 0x00000#18, 0x095E3#18, 0x095DF#18, 0x09661#18, 0x00000#18,
      0x04AEF#18, 0x0B9DF#18, 0x04AED#18, 0x00000#18, 0x00000#18, 0x0B95F#18, 0x00000#18, 0x00000#18]
  | 10 => [0x0523F#18, 0x0D3BB#18, 0x0523D#18, 0x00000#18, 0x0753F#18, 0x0753B#18, 0x0753D#18, 0x00000#18,
      0x04AE7#18, 0x0523B#18, 0x04AE5#18, 0x00000#18, 0x098BF#18, 0x098BB#18, 0x098BD#18, 0x00000#18]
  | 11 => [0x25489#18, 0x1B43B#18, 0x00000#18, 0x00000#18, 0x095BF#18, 0x095BB#18, 0x0963D#18, 0x00000#18,
      0x04AA1#18, 0x199BB#18, 0x04AE9#18, 0x00000#18, 0x1993F#18, 0x1993B#18, 0x199BD#18, 0x00000#18]
  | 12 => [0x05227#18, 0x0D3A3#18, 0x00000#18, 0x00000#18, 0x07527#18, 0x07523#18, 0x0B529#18, 0x00000#18,
      0x04AB5#18, 0x05223#18, 0x04AAB#18, 0x00000#18, 0x098A7#18, 0x098A3#18, 0x0D8A9#18, 0x00000#18]
  | 13 => [0x25491#18, 0x1B423#18, 0x00000#18, 0x00000#18, 0x00000#18, 0x095A3#18, 0x0D5A9#18, 0x00000#18,
      0x04A9D#18, 0x199A3#18, 0x00000#18, 0x00000#18, 0x00000#18, 0x19923#18, 0x0F929#18, 0x00000#18]
  | 14 => [0x05225#18, 0x0D3D7#18, 0x00000#18, 0x00000#18, 0x07525#18, 0x07557#18, 0x0B531#18, 0x00000#18,
      0x04AB3#18, 0x05257#18, 0x04AC3#18, 0x00000#18, 0x098A5#18, 0x098D7#18, 0x0D8B1#18, 0x00000#18]
  | 15 => [0x2548B#18, 0x1B457#18, 0x00000#18, 0x00000#18, 0x00000#18, 0x095D7#18, 0x0D5B1#18, 0x00000#18,
      0x04ADB#18, 0x199D7#18, 0x00000#18, 0x00000#18, 0x00000#18, 0x19957#18, 0x0F931#18, 0x00000#18]
  | _ => []

/-- `ROM[op]`. -/
def Rom.word (op : Byte) : RomWord := (Rom.row (op.toNat / 16)).getD (op.toNat % 16) 0#18

/-! ## The fields of a ROM word (R62) -/

/-- Bit 0, `V`: the opcode is defined. -/
def Rom.vField (w : RomWord) : BitVec 1 := w.extractLsb' 0 1
/-- Bits 6:1, `MNEM`. -/
def Rom.mnemField (w : RomWord) : BitVec 6 := w.extractLsb' 1 6
/-- Bits 10:7, `MODE`. -/
def Rom.modeField (w : RomWord) : BitVec 4 := w.extractLsb' 7 4
/-- Bits 12:11, `SIZE`. -/
def Rom.sizeField (w : RomWord) : BitVec 2 := w.extractLsb' 11 2
/-- Bits 15:13, `BASE`. -/
def Rom.baseField (w : RomWord) : BitVec 3 := w.extractLsb' 13 3
/-- Bits 17:16, `CLASS`. -/
def Rom.classField (w : RomWord) : BitVec 2 := w.extractLsb' 16 2

/-! ## The codes of its fields -/

/-- The addressing modes in the order of their codes, 0 to 12 (R58). -/
def modeNames : List Mode :=
  [.accumulator, .absolute, .absoluteX, .absoluteY, .immediate, .implied, .indirect,
   .indirectX, .indirectY, .relative, .zeropage, .zeropageX, .zeropageY]

/-- The mnemonics in the order of their codes, 0 to 55 (R59). -/
def mnemonicNames : List Mnemonic :=
  [.ADC, .AND, .ASL, .BCC, .BCS, .BEQ, .BIT, .BMI, .BNE, .BPL, .BRK, .BVC, .BVS, .CLC, .CLD,
   .CLI, .CLV, .CMP, .CPX, .CPY, .DEC, .DEX, .DEY, .EOR, .INC, .INX, .INY, .JMP, .JSR, .LDA,
   .LDX, .LDY, .LSR, .NOP, .ORA, .PHA, .PHP, .PLA, .PLP, .ROL, .ROR, .RTI, .RTS, .SBC, .SEC,
   .SED, .SEI, .STA, .STX, .STY, .TAX, .TAY, .TSX, .TXA, .TXS, .TYA]

/-- The cycle classes in the order of their codes, 0 to 2 (R60). -/
def classNames : List CycleClass := [.none, .pageCross, .branch]

/-- The mode of a mode code; codes 13 to 15 have none (R58). -/
def modeOfCode (c : BitVec 4) : Option Mode := modeNames[c.toNat]?

/-- The mnemonic of a mnemonic code; codes 56 to 63 have none (R59). -/
def mnemonicOfCode (c : BitVec 6) : Option Mnemonic := mnemonicNames[c.toNat]?

/-- The class of a class code; code 3 has none (R60). -/
def classOfCode (c : BitVec 2) : Option CycleClass := classNames[c.toNat]?

/-- The code of a mode: its position in the source's list (R58). -/
def modeCode (m : Mode) : Nat := modeNames.idxOf m

/-- The code of a mnemonic: its position in alphabetical order (R59). -/
def mnemonicCode (m : Mnemonic) : Nat := mnemonicNames.idxOf m

/-- The code of a cycle class (R60). -/
def classCode (c : CycleClass) : Nat := classNames.idxOf c

/-! ## Lookup -/

/-- Why lookup answers no InstructionSpec. -/
inductive LookupError where
  /-- `V = 0`: the block's one error (R69, R171) -/
  | unknownOpcode (op : Byte)
  /-- a code that is never stored: refused rather than given a value (R156, I10) -/
  | unstoredCode (op : Byte)
deriving DecidableEq, Repr

/-- `lookup(op)` of R69: read the ROM word and take its fields apart. -/
def lookup (op : Byte) : Except LookupError InstructionSpec :=
  if Rom.vField (Rom.word op) = 0#1 then .error (.unknownOpcode op)
  else
    match mnemonicOfCode (Rom.mnemField (Rom.word op)), modeOfCode (Rom.modeField (Rom.word op)),
        classOfCode (Rom.classField (Rom.word op)) with
    | some mnemonic, some mode, some cls =>
      .ok
        { mnemonic, mode, cls
          size := (Rom.sizeField (Rom.word op)).toNat
          baseCycles := (Rom.baseField (Rom.word op)).toNat }
    | _, _, _ => .error (.unstoredCode op)

end Sys2Proof.Machine
end

