-- ==== Sys2Proof/Machine/Ops.lean ====
section
/-!
DEFINITION. The named operations over memory and over State. The block only reads memory (20_memory
R33, R34): one byte a read, every address answering (R51), addresses 16 bits wide and wrapping (R36).
`Memory.write` is the CALLER's (R47, R191) and the loader's; no meaning of an instruction calls it.
The one error of the block, `UnknownOpcode`, is raised here once (60_exceptions R171); the block takes
no trap, so there is no state to save and no return (R175, R176).
-/
namespace Sys2Proof.Machine

/-! ## Memory -/

/-- The byte listed for an address number, or what an unlisted one reads as. -/
def Memory.find : Memory → Nat → Byte
  | [], _ => Config.unlistedByte
  | (k, v) :: m, a => if k = a then v else Memory.find m a

/-- `readByte` (R20): the byte a 16-bit address answers; a pure function of the snapshot (R41). -/
def Memory.read (m : Memory) (a : Addr) : Byte := Memory.find m a.toNat

/-- The cell that holds `v` at address number `a`, or no cell where an unlisted address already reads
as `v`. -/
def Memory.cell (a : Nat) (v : Byte) : Memory :=
  if v = Config.unlistedByte then [] else [(a, v)]

/-- Set the byte at an address number, keeping the canonical form. -/
def Memory.put : Memory → Nat → Byte → Memory
  | [], a, v => Memory.cell a v
  | (k, w) :: m, a, v =>
    if a < k then Memory.cell a v ++ (k, w) :: m
    else if a = k then Memory.cell a v ++ m
    else (k, w) :: Memory.put m a v

/-- The caller's store of one byte (R47). -/
def Memory.write (m : Memory) (a : Addr) (v : Byte) : Memory := Memory.put m a.toNat v

/-- Every listed address is at least `lo`, addresses rise strictly and stay in the 16-bit space, and no
listed byte is what an unlisted address reads as. -/
def Memory.wfFrom : Nat → Memory → Bool
  | _, [] => true
  | lo, (k, v) :: m =>
    decide (lo ≤ k) && decide (k < Config.addressSpace) && decide (v ≠ Config.unlistedByte)
      && Memory.wfFrom (k + 1) m

/-- The canonical form of memory: equal memories are equal lists. -/
def Memory.wf (m : Memory) : Bool := Memory.wfFrom 0 m

/-! ## Addresses -/

/-- A zero-page address: the byte, zero-extended (R42, R54). -/
def zeroPage (b : Byte) : Addr := b.setWidth 16

/-- `rd16(a_lo, a_hi)` of R10: the little-endian word at two given byte addresses (R32, R33). -/
def rd16 (m : Memory) (aLo aHi : Addr) : Addr := word16 (m.read aLo) (m.read aHi)

/-- The address after `p` in the same page: the low byte wraps, the page number stays (R148). -/
def samePageNext (p : Addr) : Addr := word16 (lo8 p + 1#8) (hi8 p)

/-- Do two addresses lie in different pages (R12: their high bytes differ)? -/
def crosses (a b : Addr) : Bool := hi8 a != hi8 b

/-! ## State -/

/-- Record the outputs of a completed evaluation; every input stays (R15, R170). -/
def State.latch (s : State) (d : DecodedInstruction) (reads : List Addr) : State :=
  { s with out := some d, busReads := reads }

/-- Raise `UnknownOpcode(op)`: the evaluation ends, nothing is changed (R171, R172, R175). -/
def raiseUnknownOpcode (op : Byte) : Host.Outcome State Fault Refusal := .fault (.unknownOpcode op)

/-- End an evaluation whose lookup gave no InstructionSpec. -/
def raise : LookupError → Host.Outcome State Fault Refusal
  | .unknownOpcode op => raiseUnknownOpcode op
  | .unstoredCode op => .refused (.unstoredCode op)

end Sys2Proof.Machine
end

