-- ==== Sys2Proof/Machine/Operands.lean ====
section
/-!
DEFINITION. The addressing-mode resolver (47_address_resolver): for each of the 13 modes the effective
address, the number of operand bytes and the page-crossing bit. It has no error outcome (R154): every
sum wraps (R36, R37). `resolveWith` takes the operand bytes an instruction carries; `resolve` is the
resolver of R137, which reads them at `PC + 1` and `PC + 2`.
-/
namespace Sys2Proof.Machine

/-- What the resolver answers (R137). `ea` is absent for Accumulator and Implied (R138, R139). -/
structure Resolution where
  ea : Option Addr
  extraBytes : Nat
  pageCrossed : Bool
deriving DecidableEq, Repr

/-- The number of operand bytes of a mode (R151). -/
def extraBytes : Mode → Nat
  | .accumulator => 0
  | .implied => 0
  | .immediate => 1
  | .zeropage => 1
  | .zeropageX => 1
  | .zeropageY => 1
  | .relative => 1
  | .indirectX => 1
  | .indirectY => 1
  | .absolute => 2
  | .absoluteX => 2
  | .absoluteY => 2
  | .indirect => 2

/-- The word a zero-page pointer holds; its second byte is read in the zero page too (R149, R150, D6). -/
def zeroPageWord (m : Memory) (z : Byte) : Addr := rd16 m (zeroPage z) (zeroPage (z + 1#8))

/-- A base address plus a zero-extended index, modulo 2^16, with the crossing of its page (R145, R146,
R150). -/
def indexed (extra : Nat) (base : Addr) (index : Byte) : Resolution :=
  { ea := some (base + index.setWidth 16)
    extraBytes := extra
    pageCrossed := crosses base (base + index.setWidth 16) }

/-- The address after a Relative instruction, `PC + size` with `size = 2` (R147). -/
def afterBranch (pc : Addr) : Addr := pc + 2#16

/-- The branch target: the offset byte is two's complement, -128 to +127 (R56, R147). -/
def branchTarget (pc : Addr) (b : Byte) : Addr := afterBranch pc + b.signExtend 16

/-- The result of a mode for the operand bytes `b1` (at `PC + 1`) and `b2` (at `PC + 2`); a mode with
fewer operand bytes uses no byte it has not (R138 to R150). -/
def resolveWith (mode : Mode) (b1 b2 : Byte) (pc : Addr) (x y : Byte) (m : Memory) : Resolution :=
  match mode with
  | .accumulator => { ea := none, extraBytes := 0, pageCrossed := false }
  | .absolute => { ea := some (word16 b1 b2), extraBytes := 2, pageCrossed := false }
  | .absoluteX => indexed 2 (word16 b1 b2) x
  | .absoluteY => indexed 2 (word16 b1 b2) y
  | .immediate => { ea := some (pc + 1#16), extraBytes := 1, pageCrossed := false }
  | .implied => { ea := none, extraBytes := 0, pageCrossed := false }
  | .indirect =>
    { ea := some (rd16 m (word16 b1 b2) (samePageNext (word16 b1 b2)))
      extraBytes := 2, pageCrossed := false }
  | .indirectX => { ea := some (zeroPageWord m (b1 + x)), extraBytes := 1, pageCrossed := false }
  | .indirectY => indexed 1 (zeroPageWord m b1) y
  | .relative =>
    { ea := some (branchTarget pc b1), extraBytes := 1
      pageCrossed := crosses (afterBranch pc) (branchTarget pc b1) }
  | .zeropage => { ea := some (zeroPage b1), extraBytes := 1, pageCrossed := false }
  | .zeropageX => { ea := some (zeroPage (b1 + x)), extraBytes := 1, pageCrossed := false }
  | .zeropageY => { ea := some (zeroPage (b1 + y)), extraBytes := 1, pageCrossed := false }

/-- `resolve(mode, PC, X, Y, mem)` of R137: the operand bytes stand at `PC + 1` and `PC + 2`. -/
def resolve (mode : Mode) (pc : Addr) (x y : Byte) (m : Memory) : Resolution :=
  resolveWith mode (m.read (pc + 1#16)) (m.read (pc + 2#16)) pc x y m

/-- The addresses the resolver reads, in the order of R49: operand bytes, then the pointer's low and
high byte (R153). Immediate reads nothing: its literal is not read (R140). -/
def resolverReads (mode : Mode) (b1 b2 : Byte) (pc : Addr) (x : Byte) : List Addr :=
  match mode with
  | .accumulator => []
  | .absolute => [pc + 1#16, pc + 2#16]
  | .absoluteX => [pc + 1#16, pc + 2#16]
  | .absoluteY => [pc + 1#16, pc + 2#16]
  | .immediate => []
  | .implied => []
  | .indirect => [pc + 1#16, pc + 2#16, word16 b1 b2, samePageNext (word16 b1 b2)]
  | .indirectX => [pc + 1#16, zeroPage (b1 + x), zeroPage (b1 + x + 1#8)]
  | .indirectY => [pc + 1#16, zeroPage b1, zeroPage (b1 + 1#8)]
  | .relative => [pc + 1#16]
  | .zeropage => [pc + 1#16]
  | .zeropageX => [pc + 1#16]
  | .zeropageY => [pc + 1#16]

end Sys2Proof.Machine
end

