-- ==== Sys2Proof/Machine/Flags.lean ====
section
/-!
DEFINITION. The block holds, reads and writes no flag (10_state R25). The one flag-derived input is
`BT` (R19), and all it decides is cycles: this file is the cycle total of 48_decode_dispatch R160 to
R162.
-/
namespace Sys2Proof.Machine

/-- The conditional extra cycles of a class (R160): a branch pays for being taken, and for a crossing
only when it is taken (R161); a page-cross penalty opcode pays for a crossing (R162). -/
def extras (cls : CycleClass) (bt pageCrossed : Bool) : Nat :=
  match cls with
  | .branch => (if bt then 1 else 0) + (if bt && pageCrossed then 1 else 0)
  | .pageCross => if pageCrossed then 1 else 0
  | .none => 0

/-- `totalCycles = baseCycles + extras` (R160). -/
def totalCycles (spec : InstructionSpec) (bt pageCrossed : Bool) : Nat :=
  spec.baseCycles + extras spec.cls bt pageCrossed

end Sys2Proof.Machine
end

