-- ==== Sys2Proof/Machine/Evaluate.lean ====
section
/-!
DEFINITION. One evaluation of the block. `evaluate` is the shared operation every instruction's meaning
is (40_opcode_rom R80): look the opcode's ROM word up, resolve the operand, total the cycles, output the
record. `blockDecode` is the decode operation of 48_decode_dispatch R157 as the spec writes it, over the
raw inputs and memory, without the syntax of Syntax.lean.
-/
namespace Sys2Proof.Machine

/-- The output record of R163, put together from the opcode byte, its spec and its resolution. -/
def decodedRecord (op : Byte) (spec : InstructionSpec) (r : Resolution) (bt : Bool) :
    DecodedInstruction :=
  { opcode := op
    spec := spec
    address := r.ea
    pageCrossed := r.pageCrossed
    totalCycles := totalCycles spec bt r.pageCrossed }

/-- The instruction that stands at `PC`; operand bytes follow at `PC + 1` and `PC + 2`, wrapping
(R24, R52). -/
def State.fetched (s : State) : Option Instr :=
  decodeInstr (s.mem.read s.pc) (s.mem.read (s.pc + 1#16)) (s.mem.read (s.pc + 2#16))

/-- The evaluation of the opcode `op` with the operand `o` at the inputs of `s` (R80, R157): the
outputs and the reads are recorded, nothing else changes (R170). -/
def evaluate (op : Byte) (o : Operand) (s : State) : Host.Outcome State Fault Refusal :=
  match lookup op with
  | .error e => raise e
  | .ok spec =>
    .next (s.latch
      (decodedRecord op spec (resolveWith spec.mode o.first o.second s.pc s.x s.y s.mem) s.bt)
      (s.pc :: resolverReads spec.mode o.first o.second s.pc s.x))

/-- `decode(PC, X, Y, BT, mem)` of R157. -/
def blockDecode (pc : Addr) (x y : Byte) (bt : Bool) (m : Memory) :
    Except LookupError DecodedInstruction :=
  match lookup (m.read pc) with
  | .error e => .error e
  | .ok spec => .ok (decodedRecord (m.read pc) spec (resolve spec.mode pc x y m) bt)

/-- The addresses an evaluation reads, in the order of R49: the opcode byte, then what the resolver
reads; for an undefined opcode the opcode byte alone (R50, R153, R158). -/
def blockReads (pc : Addr) (x : Byte) (m : Memory) : List Addr :=
  match lookup (m.read pc) with
  | .error _ => [pc]
  | .ok spec =>
    pc :: resolverReads spec.mode (m.read (pc + 1#16)) (m.read (pc + 2#16)) pc x

end Sys2Proof.Machine
end

