-- ==== Sys2Proof/Machine/Alu.lean ====
section
/-!
DEFINITION. The meanings of the arithmetic, logic, compare and bit test instructions (43_alu.md, R97 to R105). What an
instruction does in this block is its decode (40_opcode_rom R80); execution is out of scope (00_scope
R4). Each meaning is the shared evaluation at its row's opcode and operand.
-/
namespace Sys2Proof.Machine

/-! ## ADC (R97) -/

/-- ADC IndirectX, opcode 0x61 (R97). -/
def execAdcIndX (zp : Byte) (s : State) : Host.Outcome State Fault Refusal :=
  evaluate 0x61#8 (.byte zp) s

/-- ADC Zeropage, opcode 0x65 (R97). -/
def execAdcZp (zp : Byte) (s : State) : Host.Outcome State Fault Refusal :=
  evaluate 0x65#8 (.byte zp) s

/-- ADC Immediate, opcode 0x69 (R97). -/
def execAdcImm (imm : Byte) (s : State) : Host.Outcome State Fault Refusal :=
  evaluate 0x69#8 (.byte imm) s

/-- ADC Absolute, opcode 0x6D (R97). -/
def execAdcAbs (addr : Addr) (s : State) : Host.Outcome State Fault Refusal :=
  evaluate 0x6D#8 (.word addr) s

/-- ADC IndirectY, opcode 0x71 (R97). -/
def execAdcIndY (zp : Byte) (s : State) : Host.Outcome State Fault Refusal :=
  evaluate 0x71#8 (.byte zp) s

/-- ADC ZeropageX, opcode 0x75 (R97). -/
def execAdcZpX (zp : Byte) (s : State) : Host.Outcome State Fault Refusal :=
  evaluate 0x75#8 (.byte zp) s

/-- ADC AbsoluteY, opcode 0x79 (R97). -/
def execAdcAbsY (addr : Addr) (s : State) : Host.Outcome State Fault Refusal :=
  evaluate 0x79#8 (.word addr) s

/-- ADC AbsoluteX, opcode 0x7D (R97). -/
def execAdcAbsX (addr : Addr) (s : State) : Host.Outcome State Fault Refusal :=
  evaluate 0x7D#8 (.word addr) s

/-! ## SBC (R98) -/

/-- SBC IndirectX, opcode 0xE1 (R98). -/
def execSbcIndX (zp : Byte) (s : State) : Host.Outcome State Fault Refusal :=
  evaluate 0xE1#8 (.byte zp) s

/-- SBC Zeropage, opcode 0xE5 (R98). -/
def execSbcZp (zp : Byte) (s : State) : Host.Outcome State Fault Refusal :=
  evaluate 0xE5#8 (.byte zp) s

/-- SBC Immediate, opcode 0xE9 (R98). -/
def execSbcImm (imm : Byte) (s : State) : Host.Outcome State Fault Refusal :=
  evaluate 0xE9#8 (.byte imm) s

/-- SBC Absolute, opcode 0xED (R98). -/
def execSbcAbs (addr : Addr) (s : State) : Host.Outcome State Fault Refusal :=
  evaluate 0xED#8 (.word addr) s

/-- SBC IndirectY, opcode 0xF1 (R98). -/
def execSbcIndY (zp : Byte) (s : State) : Host.Outcome State Fault Refusal :=
  evaluate 0xF1#8 (.byte zp) s

/-- SBC ZeropageX, opcode 0xF5 (R98). -/
def execSbcZpX (zp : Byte) (s : State) : Host.Outcome State Fault Refusal :=
  evaluate 0xF5#8 (.byte zp) s

/-- SBC AbsoluteY, opcode 0xF9 (R98). -/
def execSbcAbsY (addr : Addr) (s : State) : Host.Outcome State Fault Refusal :=
  evaluate 0xF9#8 (.word addr) s

/-- SBC AbsoluteX, opcode 0xFD (R98). -/
def execSbcAbsX (addr : Addr) (s : State) : Host.Outcome State Fault Refusal :=
  evaluate 0xFD#8 (.word addr) s

/-! ## AND (R99) -/

/-- AND IndirectX, opcode 0x21 (R99). -/
def execAndIndX (zp : Byte) (s : State) : Host.Outcome State Fault Refusal :=
  evaluate 0x21#8 (.byte zp) s

/-- AND Zeropage, opcode 0x25 (R99). -/
def execAndZp (zp : Byte) (s : State) : Host.Outcome State Fault Refusal :=
  evaluate 0x25#8 (.byte zp) s

/-- AND Immediate, opcode 0x29 (R99). -/
def execAndImm (imm : Byte) (s : State) : Host.Outcome State Fault Refusal :=
  evaluate 0x29#8 (.byte imm) s

/-- AND Absolute, opcode 0x2D (R99). -/
def execAndAbs (addr : Addr) (s : State) : Host.Outcome State Fault Refusal :=
  evaluate 0x2D#8 (.word addr) s

/-- AND IndirectY, opcode 0x31 (R99). -/
def execAndIndY (zp : Byte) (s : State) : Host.Outcome State Fault Refusal :=
  evaluate 0x31#8 (.byte zp) s

/-- AND ZeropageX, opcode 0x35 (R99). -/
def execAndZpX (zp : Byte) (s : State) : Host.Outcome State Fault Refusal :=
  evaluate 0x35#8 (.byte zp) s

/-- AND AbsoluteY, opcode 0x39 (R99). -/
def execAndAbsY (addr : Addr) (s : State) : Host.Outcome State Fault Refusal :=
  evaluate 0x39#8 (.word addr) s

/-- AND AbsoluteX, opcode 0x3D (R99). -/
def execAndAbsX (addr : Addr) (s : State) : Host.Outcome State Fault Refusal :=
  evaluate 0x3D#8 (.word addr) s

/-! ## ORA (R100) -/

/-- ORA IndirectX, opcode 0x01 (R100). -/
def execOraIndX (zp : Byte) (s : State) : Host.Outcome State Fault Refusal :=
  evaluate 0x01#8 (.byte zp) s

/-- ORA Zeropage, opcode 0x05 (R100). -/
def execOraZp (zp : Byte) (s : State) : Host.Outcome State Fault Refusal :=
  evaluate 0x05#8 (.byte zp) s

/-- ORA Immediate, opcode 0x09 (R100). -/
def execOraImm (imm : Byte) (s : State) : Host.Outcome State Fault Refusal :=
  evaluate 0x09#8 (.byte imm) s

/-- ORA Absolute, opcode 0x0D (R100). -/
def execOraAbs (addr : Addr) (s : State) : Host.Outcome State Fault Refusal :=
  evaluate 0x0D#8 (.word addr) s

/-- ORA IndirectY, opcode 0x11 (R100). -/
def execOraIndY (zp : Byte) (s : State) : Host.Outcome State Fault Refusal :=
  evaluate 0x11#8 (.byte zp) s

/-- ORA ZeropageX, opcode 0x15 (R100). -/
def execOraZpX (zp : Byte) (s : State) : Host.Outcome State Fault Refusal :=
  evaluate 0x15#8 (.byte zp) s

/-- ORA AbsoluteY, opcode 0x19 (R100). -/
def execOraAbsY (addr : Addr) (s : State) : Host.Outcome State Fault Refusal :=
  evaluate 0x19#8 (.word addr) s

/-- ORA AbsoluteX, opcode 0x1D (R100). -/
def execOraAbsX (addr : Addr) (s : State) : Host.Outcome State Fault Refusal :=
  evaluate 0x1D#8 (.word addr) s

/-! ## EOR (R101) -/

/-- EOR IndirectX, opcode 0x41 (R101). -/
def execEorIndX (zp : Byte) (s : State) : Host.Outcome State Fault Refusal :=
  evaluate 0x41#8 (.byte zp) s

/-- EOR Zeropage, opcode 0x45 (R101). -/
def execEorZp (zp : Byte) (s : State) : Host.Outcome State Fault Refusal :=
  evaluate 0x45#8 (.byte zp) s

/-- EOR Immediate, opcode 0x49 (R101). -/
def execEorImm (imm : Byte) (s : State) : Host.Outcome State Fault Refusal :=
  evaluate 0x49#8 (.byte imm) s

/-- EOR Absolute, opcode 0x4D (R101). -/
def execEorAbs (addr : Addr) (s : State) : Host.Outcome State Fault Refusal :=
  evaluate 0x4D#8 (.word addr) s

/-- EOR IndirectY, opcode 0x51 (R101). -/
def execEorIndY (zp : Byte) (s : State) : Host.Outcome State Fault Refusal :=
  evaluate 0x51#8 (.byte zp) s

/-- EOR ZeropageX, opcode 0x55 (R101). -/
def execEorZpX (zp : Byte) (s : State) : Host.Outcome State Fault Refusal :=
  evaluate 0x55#8 (.byte zp) s

/-- EOR AbsoluteY, opcode 0x59 (R101). -/
def execEorAbsY (addr : Addr) (s : State) : Host.Outcome State Fault Refusal :=
  evaluate 0x59#8 (.word addr) s

/-- EOR AbsoluteX, opcode 0x5D (R101). -/
def execEorAbsX (addr : Addr) (s : State) : Host.Outcome State Fault Refusal :=
  evaluate 0x5D#8 (.word addr) s

/-! ## CMP (R102) -/

/-- CMP IndirectX, opcode 0xC1 (R102). -/
def execCmpIndX (zp : Byte) (s : State) : Host.Outcome State Fault Refusal :=
  evaluate 0xC1#8 (.byte zp) s

/-- CMP Zeropage, opcode 0xC5 (R102). -/
def execCmpZp (zp : Byte) (s : State) : Host.Outcome State Fault Refusal :=
  evaluate 0xC5#8 (.byte zp) s

/-- CMP Immediate, opcode 0xC9 (R102). -/
def execCmpImm (imm : Byte) (s : State) : Host.Outcome State Fault Refusal :=
  evaluate 0xC9#8 (.byte imm) s

/-- CMP Absolute, opcode 0xCD (R102). -/
def execCmpAbs (addr : Addr) (s : State) : Host.Outcome State Fault Refusal :=
  evaluate 0xCD#8 (.word addr) s

/-- CMP IndirectY, opcode 0xD1 (R102). -/
def execCmpIndY (zp : Byte) (s : State) : Host.Outcome State Fault Refusal :=
  evaluate 0xD1#8 (.byte zp) s

/-- CMP ZeropageX, opcode 0xD5 (R102). -/
def execCmpZpX (zp : Byte) (s : State) : Host.Outcome State Fault Refusal :=
  evaluate 0xD5#8 (.byte zp) s

/-- CMP AbsoluteY, opcode 0xD9 (R102). -/
def execCmpAbsY (addr : Addr) (s : State) : Host.Outcome State Fault Refusal :=
  evaluate 0xD9#8 (.word addr) s

/-- CMP AbsoluteX, opcode 0xDD (R102). -/
def execCmpAbsX (addr : Addr) (s : State) : Host.Outcome State Fault Refusal :=
  evaluate 0xDD#8 (.word addr) s

/-! ## CPX (R103) -/

/-- CPX Immediate, opcode 0xE0 (R103). -/
def execCpxImm (imm : Byte) (s : State) : Host.Outcome State Fault Refusal :=
  evaluate 0xE0#8 (.byte imm) s

/-- CPX Zeropage, opcode 0xE4 (R103). -/
def execCpxZp (zp : Byte) (s : State) : Host.Outcome State Fault Refusal :=
  evaluate 0xE4#8 (.byte zp) s

/-- CPX Absolute, opcode 0xEC (R103). -/
def execCpxAbs (addr : Addr) (s : State) : Host.Outcome State Fault Refusal :=
  evaluate 0xEC#8 (.word addr) s

/-! ## CPY (R104) -/

/-- CPY Immediate, opcode 0xC0 (R104). -/
def execCpyImm (imm : Byte) (s : State) : Host.Outcome State Fault Refusal :=
  evaluate 0xC0#8 (.byte imm) s

/-- CPY Zeropage, opcode 0xC4 (R104). -/
def execCpyZp (zp : Byte) (s : State) : Host.Outcome State Fault Refusal :=
  evaluate 0xC4#8 (.byte zp) s

/-- CPY Absolute, opcode 0xCC (R104). -/
def execCpyAbs (addr : Addr) (s : State) : Host.Outcome State Fault Refusal :=
  evaluate 0xCC#8 (.word addr) s

/-! ## BIT (R105) -/

/-- BIT Zeropage, opcode 0x24 (R105). -/
def execBitZp (zp : Byte) (s : State) : Host.Outcome State Fault Refusal :=
  evaluate 0x24#8 (.byte zp) s

/-- BIT Absolute, opcode 0x2C (R105). -/
def execBitAbs (addr : Addr) (s : State) : Host.Outcome State Fault Refusal :=
  evaluate 0x2C#8 (.word addr) s

end Sys2Proof.Machine
end

