-- ==== Sys2Proof/Machine/Control.lean ====
section
/-!
DEFINITION. The meanings of the branch, jump, subroutine, return and break instructions (45_control.md, R116 to R128). What an
instruction does in this block is its decode (40_opcode_rom R80); execution is out of scope (00_scope
R4). Each meaning is the shared evaluation at its row's opcode and operand.
-/
namespace Sys2Proof.Machine

/-! ## BPL (R116) -/

/-- BPL Relative, opcode 0x10 (R116). -/
def execBpl (off : Int) (s : State) : Host.Outcome State Fault Refusal :=
  evaluate 0x10#8 (.offset off) s

/-! ## BMI (R117) -/

/-- BMI Relative, opcode 0x30 (R117). -/
def execBmi (off : Int) (s : State) : Host.Outcome State Fault Refusal :=
  evaluate 0x30#8 (.offset off) s

/-! ## BVC (R118) -/

/-- BVC Relative, opcode 0x50 (R118). -/
def execBvc (off : Int) (s : State) : Host.Outcome State Fault Refusal :=
  evaluate 0x50#8 (.offset off) s

/-! ## BVS (R119) -/

/-- BVS Relative, opcode 0x70 (R119). -/
def execBvs (off : Int) (s : State) : Host.Outcome State Fault Refusal :=
  evaluate 0x70#8 (.offset off) s

/-! ## BCC (R120) -/

/-- BCC Relative, opcode 0x90 (R120). -/
def execBcc (off : Int) (s : State) : Host.Outcome State Fault Refusal :=
  evaluate 0x90#8 (.offset off) s

/-! ## BCS (R121) -/

/-- BCS Relative, opcode 0xB0 (R121). -/
def execBcs (off : Int) (s : State) : Host.Outcome State Fault Refusal :=
  evaluate 0xB0#8 (.offset off) s

/-! ## BNE (R122) -/

/-- BNE Relative, opcode 0xD0 (R122). -/
def execBne (off : Int) (s : State) : Host.Outcome State Fault Refusal :=
  evaluate 0xD0#8 (.offset off) s

/-! ## BEQ (R123) -/

/-- BEQ Relative, opcode 0xF0 (R123). -/
def execBeq (off : Int) (s : State) : Host.Outcome State Fault Refusal :=
  evaluate 0xF0#8 (.offset off) s

/-! ## JMP (R124) -/

/-- JMP Absolute, opcode 0x4C (R124). -/
def execJmpAbs (addr : Addr) (s : State) : Host.Outcome State Fault Refusal :=
  evaluate 0x4C#8 (.word addr) s

/-- JMP Indirect, opcode 0x6C (R124). -/
def execJmpInd (addr : Addr) (s : State) : Host.Outcome State Fault Refusal :=
  evaluate 0x6C#8 (.word addr) s

/-! ## JSR (R125) -/

/-- JSR Absolute, opcode 0x20 (R125). -/
def execJsrAbs (addr : Addr) (s : State) : Host.Outcome State Fault Refusal :=
  evaluate 0x20#8 (.word addr) s

/-! ## RTS (R126) -/

/-- RTS Implied, opcode 0x60 (R126). -/
def execRts (s : State) : Host.Outcome State Fault Refusal :=
  evaluate 0x60#8 .none s

/-! ## RTI (R127) -/

/-- RTI Implied, opcode 0x40 (R127). -/
def execRti (s : State) : Host.Outcome State Fault Refusal :=
  evaluate 0x40#8 .none s

/-! ## BRK (R128) -/

/-- BRK Implied, opcode 0x00 (R128). -/
def execBrk (s : State) : Host.Outcome State Fault Refusal :=
  evaluate 0x00#8 .none s

end Sys2Proof.Machine
end

