-- ==== Sys2Proof/Machine/FlagNop.lean ====
section
/-!
DEFINITION. The meanings of the flag and no-operation instructions (46_flags_nop.md, R129 to R136). What an
instruction does in this block is its decode (40_opcode_rom R80); execution is out of scope (00_scope
R4). Each meaning is the shared evaluation at its row's opcode and operand.
-/
namespace Sys2Proof.Machine

/-! ## CLC (R129) -/

/-- CLC Implied, opcode 0x18 (R129). -/
def execClc (s : State) : Host.Outcome State Fault Refusal :=
  evaluate 0x18#8 .none s

/-! ## SEC (R130) -/

/-- SEC Implied, opcode 0x38 (R130). -/
def execSec (s : State) : Host.Outcome State Fault Refusal :=
  evaluate 0x38#8 .none s

/-! ## CLI (R131) -/

/-- CLI Implied, opcode 0x58 (R131). -/
def execCli (s : State) : Host.Outcome State Fault Refusal :=
  evaluate 0x58#8 .none s

/-! ## SEI (R132) -/

/-- SEI Implied, opcode 0x78 (R132). -/
def execSei (s : State) : Host.Outcome State Fault Refusal :=
  evaluate 0x78#8 .none s

/-! ## CLD (R133) -/

/-- CLD Implied, opcode 0xD8 (R133). -/
def execCld (s : State) : Host.Outcome State Fault Refusal :=
  evaluate 0xD8#8 .none s

/-! ## SED (R134) -/

/-- SED Implied, opcode 0xF8 (R134). -/
def execSed (s : State) : Host.Outcome State Fault Refusal :=
  evaluate 0xF8#8 .none s

/-! ## CLV (R135) -/

/-- CLV Implied, opcode 0xB8 (R135). -/
def execClv (s : State) : Host.Outcome State Fault Refusal :=
  evaluate 0xB8#8 .none s

/-! ## NOP (R136) -/

/-- NOP Implied, opcode 0xEA (R136). -/
def execNop (s : State) : Host.Outcome State Fault Refusal :=
  evaluate 0xEA#8 .none s

end Sys2Proof.Machine
end

