-- ==== Sys2Proof/Machine/LoadStore.lean ====
section
/-!
DEFINITION. The meanings of the load and store instructions (41_load_store.md, R81 to R86). What an
instruction does in this block is its decode (40_opcode_rom R80); execution is out of scope (00_scope
R4). Each meaning is the shared evaluation at its row's opcode and operand.
-/
namespace Sys2Proof.Machine

/-! ## LDA (R81) -/

/-- LDA IndirectX, opcode 0xA1 (R81). -/
def execLdaIndX (zp : Byte) (s : State) : Host.Outcome State Fault Refusal :=
  evaluate 0xA1#8 (.byte zp) s

/-- LDA Zeropage, opcode 0xA5 (R81). -/
def execLdaZp (zp : Byte) (s : State) : Host.Outcome State Fault Refusal :=
  evaluate 0xA5#8 (.byte zp) s

/-- LDA Immediate, opcode 0xA9 (R81). -/
def execLdaImm (imm : Byte) (s : State) : Host.Outcome State Fault Refusal :=
  evaluate 0xA9#8 (.byte imm) s

/-- LDA Absolute, opcode 0xAD (R81). -/
def execLdaAbs (addr : Addr) (s : State) : Host.Outcome State Fault Refusal :=
  evaluate 0xAD#8 (.word addr) s

/-- LDA IndirectY, opcode 0xB1 (R81). -/
def execLdaIndY (zp : Byte) (s : State) : Host.Outcome State Fault Refusal :=
  evaluate 0xB1#8 (.byte zp) s

/-- LDA ZeropageX, opcode 0xB5 (R81). -/
def execLdaZpX (zp : Byte) (s : State) : Host.Outcome State Fault Refusal :=
  evaluate 0xB5#8 (.byte zp) s

/-- LDA AbsoluteY, opcode 0xB9 (R81). -/
def execLdaAbsY (addr : Addr) (s : State) : Host.Outcome State Fault Refusal :=
  evaluate 0xB9#8 (.word addr) s

/-- LDA AbsoluteX, opcode 0xBD (R81). -/
def execLdaAbsX (addr : Addr) (s : State) : Host.Outcome State Fault Refusal :=
  evaluate 0xBD#8 (.word addr) s

/-! ## LDX (R82) -/

/-- LDX Immediate, opcode 0xA2 (R82). -/
def execLdxImm (imm : Byte) (s : State) : Host.Outcome State Fault Refusal :=
  evaluate 0xA2#8 (.byte imm) s

/-- LDX Zeropage, opcode 0xA6 (R82). -/
def execLdxZp (zp : Byte) (s : State) : Host.Outcome State Fault Refusal :=
  evaluate 0xA6#8 (.byte zp) s

/-- LDX Absolute, opcode 0xAE (R82). -/
def execLdxAbs (addr : Addr) (s : State) : Host.Outcome State Fault Refusal :=
  evaluate 0xAE#8 (.word addr) s

/-- LDX ZeropageY, opcode 0xB6 (R82). -/
def execLdxZpY (zp : Byte) (s : State) : Host.Outcome State Fault Refusal :=
  evaluate 0xB6#8 (.byte zp) s

/-- LDX AbsoluteY, opcode 0xBE (R82). -/
def execLdxAbsY (addr : Addr) (s : State) : Host.Outcome State Fault Refusal :=
  evaluate 0xBE#8 (.word addr) s

/-! ## LDY (R83) -/

/-- LDY Immediate, opcode 0xA0 (R83). -/
def execLdyImm (imm : Byte) (s : State) : Host.Outcome State Fault Refusal :=
  evaluate 0xA0#8 (.byte imm) s

/-- LDY Zeropage, opcode 0xA4 (R83). -/
def execLdyZp (zp : Byte) (s : State) : Host.Outcome State Fault Refusal :=
  evaluate 0xA4#8 (.byte zp) s

/-- LDY Absolute, opcode 0xAC (R83). -/
def execLdyAbs (addr : Addr) (s : State) : Host.Outcome State Fault Refusal :=
  evaluate 0xAC#8 (.word addr) s

/-- LDY ZeropageX, opcode 0xB4 (R83). -/
def execLdyZpX (zp : Byte) (s : State) : Host.Outcome State Fault Refusal :=
  evaluate 0xB4#8 (.byte zp) s

/-- LDY AbsoluteX, opcode 0xBC (R83). -/
def execLdyAbsX (addr : Addr) (s : State) : Host.Outcome State Fault Refusal :=
  evaluate 0xBC#8 (.word addr) s

/-! ## STA (R84) -/

/-- STA IndirectX, opcode 0x81 (R84). -/
def execStaIndX (zp : Byte) (s : State) : Host.Outcome State Fault Refusal :=
  evaluate 0x81#8 (.byte zp) s

/-- STA Zeropage, opcode 0x85 (R84). -/
def execStaZp (zp : Byte) (s : State) : Host.Outcome State Fault Refusal :=
  evaluate 0x85#8 (.byte zp) s

/-- STA Absolute, opcode 0x8D (R84). -/
def execStaAbs (addr : Addr) (s : State) : Host.Outcome State Fault Refusal :=
  evaluate 0x8D#8 (.word addr) s

/-- STA IndirectY, opcode 0x91 (R84). -/
def execStaIndY (zp : Byte) (s : State) : Host.Outcome State Fault Refusal :=
  evaluate 0x91#8 (.byte zp) s

/-- STA ZeropageX, opcode 0x95 (R84). -/
def execStaZpX (zp : Byte) (s : State) : Host.Outcome State Fault Refusal :=
  evaluate 0x95#8 (.byte zp) s

/-- STA AbsoluteY, opcode 0x99 (R84). -/
def execStaAbsY (addr : Addr) (s : State) : Host.Outcome State Fault Refusal :=
  evaluate 0x99#8 (.word addr) s

/-- STA AbsoluteX, opcode 0x9D (R84). -/
def execStaAbsX (addr : Addr) (s : State) : Host.Outcome State Fault Refusal :=
  evaluate 0x9D#8 (.word addr) s

/-! ## STX (R85) -/

/-- STX Zeropage, opcode 0x86 (R85). -/
def execStxZp (zp : Byte) (s : State) : Host.Outcome State Fault Refusal :=
  evaluate 0x86#8 (.byte zp) s

/-- STX Absolute, opcode 0x8E (R85). -/
def execStxAbs (addr : Addr) (s : State) : Host.Outcome State Fault Refusal :=
  evaluate 0x8E#8 (.word addr) s

/-- STX ZeropageY, opcode 0x96 (R85). -/
def execStxZpY (zp : Byte) (s : State) : Host.Outcome State Fault Refusal :=
  evaluate 0x96#8 (.byte zp) s

/-! ## STY (R86) -/

/-- STY Zeropage, opcode 0x84 (R86). -/
def execStyZp (zp : Byte) (s : State) : Host.Outcome State Fault Refusal :=
  evaluate 0x84#8 (.byte zp) s

/-- STY Absolute, opcode 0x8C (R86). -/
def execStyAbs (addr : Addr) (s : State) : Host.Outcome State Fault Refusal :=
  evaluate 0x8C#8 (.word addr) s

/-- STY ZeropageX, opcode 0x94 (R86). -/
def execStyZpX (zp : Byte) (s : State) : Host.Outcome State Fault Refusal :=
  evaluate 0x94#8 (.byte zp) s

end Sys2Proof.Machine
end

