-- ==== Sys2Proof/Machine/ShiftIncDec.lean ====
section
/-!
DEFINITION. The meanings of the shift, rotate, increment and decrement instructions (44_shift_incdec.md, R106 to R115). What an
instruction does in this block is its decode (40_opcode_rom R80); execution is out of scope (00_scope
R4). Each meaning is the shared evaluation at its row's opcode and operand.
-/
namespace Sys2Proof.Machine

/-! ## ASL (R106) -/

/-- ASL Zeropage, opcode 0x06 (R106). -/
def execAslZp (zp : Byte) (s : State) : Host.Outcome State Fault Refusal :=
  evaluate 0x06#8 (.byte zp) s

/-- ASL Accumulator, opcode 0x0A (R106). -/
def execAslAcc (s : State) : Host.Outcome State Fault Refusal :=
  evaluate 0x0A#8 .none s

/-- ASL Absolute, opcode 0x0E (R106). -/
def execAslAbs (addr : Addr) (s : State) : Host.Outcome State Fault Refusal :=
  evaluate 0x0E#8 (.word addr) s

/-- ASL ZeropageX, opcode 0x16 (R106). -/
def execAslZpX (zp : Byte) (s : State) : Host.Outcome State Fault Refusal :=
  evaluate 0x16#8 (.byte zp) s

/-- ASL AbsoluteX, opcode 0x1E (R106). -/
def execAslAbsX (addr : Addr) (s : State) : Host.Outcome State Fault Refusal :=
  evaluate 0x1E#8 (.word addr) s

/-! ## LSR (R107) -/

/-- LSR Zeropage, opcode 0x46 (R107). -/
def execLsrZp (zp : Byte) (s : State) : Host.Outcome State Fault Refusal :=
  evaluate 0x46#8 (.byte zp) s

/-- LSR Accumulator, opcode 0x4A (R107). -/
def execLsrAcc (s : State) : Host.Outcome State Fault Refusal :=
  evaluate 0x4A#8 .none s

/-- LSR Absolute, opcode 0x4E (R107). -/
def execLsrAbs (addr : Addr) (s : State) : Host.Outcome State Fault Refusal :=
  evaluate 0x4E#8 (.word addr) s

/-- LSR ZeropageX, opcode 0x56 (R107). -/
def execLsrZpX (zp : Byte) (s : State) : Host.Outcome State Fault Refusal :=
  evaluate 0x56#8 (.byte zp) s

/-- LSR AbsoluteX, opcode 0x5E (R107). -/
def execLsrAbsX (addr : Addr) (s : State) : Host.Outcome State Fault Refusal :=
  evaluate 0x5E#8 (.word addr) s

/-! ## ROL (R108) -/

/-- ROL Zeropage, opcode 0x26 (R108). -/
def execRolZp (zp : Byte) (s : State) : Host.Outcome State Fault Refusal :=
  evaluate 0x26#8 (.byte zp) s

/-- ROL Accumulator, opcode 0x2A (R108). -/
def execRolAcc (s : State) : Host.Outcome State Fault Refusal :=
  evaluate 0x2A#8 .none s

/-- ROL Absolute, opcode 0x2E (R108). -/
def execRolAbs (addr : Addr) (s : State) : Host.Outcome State Fault Refusal :=
  evaluate 0x2E#8 (.word addr) s

/-- ROL ZeropageX, opcode 0x36 (R108). -/
def execRolZpX (zp : Byte) (s : State) : Host.Outcome State Fault Refusal :=
  evaluate 0x36#8 (.byte zp) s

/-- ROL AbsoluteX, opcode 0x3E (R108). -/
def execRolAbsX (addr : Addr) (s : State) : Host.Outcome State Fault Refusal :=
  evaluate 0x3E#8 (.word addr) s

/-! ## ROR (R109) -/

/-- ROR Zeropage, opcode 0x66 (R109). -/
def execRorZp (zp : Byte) (s : State) : Host.Outcome State Fault Refusal :=
  evaluate 0x66#8 (.byte zp) s

/-- ROR Accumulator, opcode 0x6A (R109). -/
def execRorAcc (s : State) : Host.Outcome State Fault Refusal :=
  evaluate 0x6A#8 .none s

/-- ROR Absolute, opcode 0x6E (R109). -/
def execRorAbs (addr : Addr) (s : State) : Host.Outcome State Fault Refusal :=
  evaluate 0x6E#8 (.word addr) s

/-- ROR ZeropageX, opcode 0x76 (R109). -/
def execRorZpX (zp : Byte) (s : State) : Host.Outcome State Fault Refusal :=
  evaluate 0x76#8 (.byte zp) s

/-- ROR AbsoluteX, opcode 0x7E (R109). -/
def execRorAbsX (addr : Addr) (s : State) : Host.Outcome State Fault Refusal :=
  evaluate 0x7E#8 (.word addr) s

/-! ## INC (R110) -/

/-- INC Zeropage, opcode 0xE6 (R110). -/
def execIncZp (zp : Byte) (s : State) : Host.Outcome State Fault Refusal :=
  evaluate 0xE6#8 (.byte zp) s

/-- INC Absolute, opcode 0xEE (R110). -/
def execIncAbs (addr : Addr) (s : State) : Host.Outcome State Fault Refusal :=
  evaluate 0xEE#8 (.word addr) s

/-- INC ZeropageX, opcode 0xF6 (R110). -/
def execIncZpX (zp : Byte) (s : State) : Host.Outcome State Fault Refusal :=
  evaluate 0xF6#8 (.byte zp) s

/-- INC AbsoluteX, opcode 0xFE (R110). -/
def execIncAbsX (addr : Addr) (s : State) : Host.Outcome State Fault Refusal :=
  evaluate 0xFE#8 (.word addr) s

/-! ## DEC (R111) -/

/-- DEC Zeropage, opcode 0xC6 (R111). -/
def execDecZp (zp : Byte) (s : State) : Host.Outcome State Fault Refusal :=
  evaluate 0xC6#8 (.byte zp) s

/-- DEC Absolute, opcode 0xCE (R111). -/
def execDecAbs (addr : Addr) (s : State) : Host.Outcome State Fault Refusal :=
  evaluate 0xCE#8 (.word addr) s

/-- DEC ZeropageX, opcode 0xD6 (R111). -/
def execDecZpX (zp : Byte) (s : State) : Host.Outcome State Fault Refusal :=
  evaluate 0xD6#8 (.byte zp) s

/-- DEC AbsoluteX, opcode 0xDE (R111). -/
def execDecAbsX (addr : Addr) (s : State) : Host.Outcome State Fault Refusal :=
  evaluate 0xDE#8 (.word addr) s

/-! ## INX (R112) -/

/-- INX Implied, opcode 0xE8 (R112). -/
def execInx (s : State) : Host.Outcome State Fault Refusal :=
  evaluate 0xE8#8 .none s

/-! ## INY (R113) -/

/-- INY Implied, opcode 0xC8 (R113). -/
def execIny (s : State) : Host.Outcome State Fault Refusal :=
  evaluate 0xC8#8 .none s

/-! ## DEX (R114) -/

/-- DEX Implied, opcode 0xCA (R114). -/
def execDex (s : State) : Host.Outcome State Fault Refusal :=
  evaluate 0xCA#8 .none s

/-! ## DEY (R115) -/

/-- DEY Implied, opcode 0x88 (R115). -/
def execDey (s : State) : Host.Outcome State Fault Refusal :=
  evaluate 0x88#8 .none s

end Sys2Proof.Machine
end

