-- ==== Sys2Proof/Machine/TransferStack.lean ====
section
/-!
DEFINITION. The meanings of the register-transfer and stack instructions (42_transfer_stack.md, R87 to R96). What an
instruction does in this block is its decode (40_opcode_rom R80); execution is out of scope (00_scope
R4). Each meaning is the shared evaluation at its row's opcode and operand.
-/
namespace Sys2Proof.Machine

/-! ## TAX (R87) -/

/-- TAX Implied, opcode 0xAA (R87). -/
def execTax (s : State) : Host.Outcome State Fault Refusal :=
  evaluate 0xAA#8 .none s

/-! ## TAY (R88) -/

/-- TAY Implied, opcode 0xA8 (R88). -/
def execTay (s : State) : Host.Outcome State Fault Refusal :=
  evaluate 0xA8#8 .none s

/-! ## TSX (R89) -/

/-- TSX Implied, opcode 0xBA (R89). -/
def execTsx (s : State) : Host.Outcome State Fault Refusal :=
  evaluate 0xBA#8 .none s

/-! ## TXA (R90) -/

/-- TXA Implied, opcode 0x8A (R90). -/
def execTxa (s : State) : Host.Outcome State Fault Refusal :=
  evaluate 0x8A#8 .none s

/-! ## TXS (R91) -/

/-- TXS Implied, opcode 0x9A (R91). -/
def execTxs (s : State) : Host.Outcome State Fault Refusal :=
  evaluate 0x9A#8 .none s

/-! ## TYA (R92) -/

/-- TYA Implied, opcode 0x98 (R92). -/
def execTya (s : State) : Host.Outcome State Fault Refusal :=
  evaluate 0x98#8 .none s

/-! ## PHA (R93) -/

/-- PHA Implied, opcode 0x48 (R93). -/
def execPha (s : State) : Host.Outcome State Fault Refusal :=
  evaluate 0x48#8 .none s

/-! ## PHP (R94) -/

/-- PHP Implied, opcode 0x08 (R94). -/
def execPhp (s : State) : Host.Outcome State Fault Refusal :=
  evaluate 0x08#8 .none s

/-! ## PLA (R95) -/

/-- PLA Implied, opcode 0x68 (R95). -/
def execPla (s : State) : Host.Outcome State Fault Refusal :=
  evaluate 0x68#8 .none s

/-! ## PLP (R96) -/

/-- PLP Implied, opcode 0x28 (R96). -/
def execPlp (s : State) : Host.Outcome State Fault Refusal :=
  evaluate 0x28#8 .none s

end Sys2Proof.Machine
end

