-- ==== Sys2Proof/Machine/Step.lean ====
section
/-!
DEFINITION. One step is one evaluation of the block (48_decode_dispatch R157): decode the bytes at `PC`
and run the decoded instruction's meaning; an undefined opcode byte is the fault `UnknownOpcode`
(60_exceptions R171). The step moves no program counter: `PC` is an input, the caller's to advance
(10_state R23, R170; log 2).
-/
namespace Sys2Proof.Machine

/-- One evaluation at the inputs of `s`. -/
def step (s : State) : Host.Outcome State Fault Refusal :=
  match s.fetched with
  | some i => exec i s
  | none => raiseUnknownOpcode (s.mem.read s.pc)

/-- `s` with the instruction whose bits are `w` (numbered as spec/opcode_table.json numbers them, the
bits from `nbits` on being 0) stored at `PC`, where the next step reads it: three bytes, the length of
the longest instruction. This stands for the load of a program from outside (log 15). -/
def State.withFetchWord (s : State) (nbits w : Nat) : State :=
  { s with
    mem := ((s.mem.write s.pc (tableByte nbits w 0)).write (s.pc + 1#16) (tableByte nbits w 1)).write
      (s.pc + 2#16) (tableByte nbits w 2) }

end Sys2Proof.Machine
end

