-- ==== Sys2Proof/Machine/Caller.lean ====
section
/-!
DEFINITION. The block's one client, the caller (execution loop): what it may do to the inputs between
two evaluations (70_reset R189, R191), and the next PC it takes (10_state R23, 95_test_vectors Part 4).
None of this is part of an evaluation; `step` calls nothing of this file.
-/
namespace Sys2Proof.Machine

/-- The caller supplies the inputs of the next evaluation (R17 to R19, R189). -/
def State.present (s : State) (pc : Addr) (x y : Byte) (bt : Bool) : State :=
  { s with pc := pc, x := x, y := y, bt := bt }

/-- The caller completes a store before the next evaluation, which then sees it (R47, R191). -/
def State.callerStore (s : State) (a : Addr) (v : Byte) : State :=
  { s with mem := s.mem.write a v }

/-- The next sequential PC, `(PC + size) mod 2^16` (R23). -/
def nextSequentialPc (pc : Addr) (d : DecodedInstruction) : Addr := pc + BitVec.ofNat 16 d.spec.size

/-- Where the loop of 95_test_vectors Part 4 continues: a taken branch, JMP and JSR at the decoded
address, RTS, RTI and BRK where execution says (no address of the block), every other instruction in
sequence. Informative in the spec: PRESUMED (log 20). -/
def loopNextPc (pc : Addr) (bt : Bool) (d : DecodedInstruction) : Option Addr :=
  match d.spec.cls with
  | .branch => if bt then d.address else some (nextSequentialPc pc d)
  | .pageCross => some (nextSequentialPc pc d)
  | .none =>
    if d.spec.mnemonic = .JMP ∨ d.spec.mnemonic = .JSR then d.address
    else if d.spec.mnemonic = .RTS ∨ d.spec.mnemonic = .RTI ∨ d.spec.mnemonic = .BRK then none
    else some (nextSequentialPc pc d)

end Sys2Proof.Machine
end

