-- ==== Sys2Proof/Machine/Signals.lean ====
section
/-!
DEFINITION. The outputs as hardware signals (10_state R21, 48_decode_dispatch R168). A signal that
carries no meaning in an evaluation has no value here: with `ERR = 1` only `OPC` is meaningful, and with
`EA_VALID = 0` there is no address (R21, R164; log 10).
-/
namespace Sys2Proof.Machine

/-- The output signals of one evaluation; `none` is a signal that means nothing in it. -/
structure Signals where
  /-- `ERR` -/
  err : Bool
  /-- `OPC[7:0]` -/
  opc : Byte
  /-- `MNEM[5:0]` -/
  mnem : Option (BitVec 6)
  /-- `MODE[3:0]` -/
  mode : Option (BitVec 4)
  /-- `SIZE[1:0]` -/
  size : Option (BitVec 2)
  /-- `BASE[2:0]` -/
  base : Option (BitVec 3)
  /-- `EA_VALID` -/
  eaValid : Option Bool
  /-- `EA[15:0]` -/
  ea : Option Addr
  /-- `PX` -/
  px : Option Bool
  /-- `TOTAL[2:0]` -/
  total : Option (BitVec 3)
deriving DecidableEq, Repr

/-- The signals that drive a DecodedInstruction out (`ERR = 0`). -/
def Signals.ofDecoded (d : DecodedInstruction) : Signals :=
  { err := false
    opc := d.opcode
    mnem := some (BitVec.ofNat 6 (mnemonicCode d.spec.mnemonic))
    mode := some (BitVec.ofNat 4 (modeCode d.spec.mode))
    size := some (BitVec.ofNat 2 d.spec.size)
    base := some (BitVec.ofNat 3 d.spec.baseCycles)
    eaValid := some d.address.isSome
    ea := d.address
    px := some d.pageCrossed
    total := some (BitVec.ofNat 3 d.totalCycles) }

/-- The signals of `UnknownOpcode(op)` (`ERR = 1`, `OPC = op`). -/
def Signals.ofUnknownOpcode (op : Byte) : Signals :=
  { err := true, opc := op, mnem := none, mode := none, size := none, base := none
    eaValid := none, ea := none, px := none, total := none }

/-- The output multiplexer (R168): the signals the block drives at the inputs of `s`; none where the
ROM holds a code that is never stored (R156). -/
def State.signals (s : State) : Option Signals :=
  match blockDecode s.pc s.x s.y s.bt s.mem with
  | .ok d => some (Signals.ofDecoded d)
  | .error (.unknownOpcode op) => some (Signals.ofUnknownOpcode op)
  | .error (.unstoredCode _) => none

end Sys2Proof.Machine
end

