-- ==== Sys2Proof/Safety.lean ====
section
/-!
DEFINITION. What claims are stated in: which opcodes are defined, what every output record satisfies, the
invariant of a state, and when two memories agree on the bytes an evaluation reads.
-/
namespace Sys2Proof.Machine

/-- The opcode has an InstructionSpec: its ROM word has `V = 1` (R62). -/
def opcodeDefined (op : Byte) : Bool := Rom.vField (Rom.word op) == 1#1

/-- The memory reads of a whole evaluation, by mode (R153, last column). -/
def readsOfMode : Mode → Nat
  | .accumulator => 1
  | .implied => 1
  | .immediate => 1
  | .zeropage => 2
  | .zeropageX => 2
  | .zeropageY => 2
  | .relative => 2
  | .absolute => 3
  | .absoluteX => 3
  | .absoluteY => 3
  | .indirectX => 4
  | .indirectY => 4
  | .indirect => 5

/-- What holds of every DecodedInstruction the block outputs. -/
structure DecodedInstruction.Ok (d : DecodedInstruction) : Prop where
  /-- the spec is the ROM's for the opcode (R163) -/
  spec : lookup d.opcode = .ok d.spec
  /-- the size agrees with the mode (R77 a) -/
  size : d.spec.size = 1 + extraBytes d.spec.mode
  /-- the base count is 2 to 7 (R77 b) -/
  base : 2 ≤ d.spec.baseCycles ∧ d.spec.baseCycles ≤ 7
  /-- the total is at least the base count and at most 7 (R163, R167) -/
  total : d.spec.baseCycles ≤ d.totalCycles ∧ d.totalCycles ≤ 7
  /-- the address is absent exactly for Accumulator and Implied (R164) -/
  address : d.address = none ↔ d.spec.mode = .accumulator ∨ d.spec.mode = .implied
  /-- a crossing is reported only in four modes (R152) -/
  crossing : d.pageCrossed = true →
    d.spec.mode = .absoluteX ∨ d.spec.mode = .absoluteY ∨ d.spec.mode = .indirectY ∨
      d.spec.mode = .relative
  /-- a zero-page mode's address is below 256 (R37) -/
  zeroPage : d.spec.mode = .zeropage ∨ d.spec.mode = .zeropageX ∨ d.spec.mode = .zeropageY →
    ∀ a, d.address = some a → a.toNat < 256

/-- How many reads the record of an evaluation holds: none before a first one (R153). -/
def recordedReads : Option DecodedInstruction → Nat
  | none => 0
  | some d => readsOfMode d.spec.mode

/-- The invariant of a state: memory is in its canonical form, and the record of the last evaluation is
one the block can output. -/
structure State.Inv (s : State) : Prop where
  memory : s.mem.wf = true
  output : ∀ d, s.out = some d → d.Ok
  reads : s.busReads.length = recordedReads s.out

/-- Two memories answer the same at each of the addresses. -/
def Memory.AgreeOn (addresses : List Addr) (m m' : Memory) : Prop :=
  ∀ a ∈ addresses, m.read a = m'.read a

/-- The 105 undefined opcode values (R64). -/
def undefinedOpcodes : List Byte :=
  [0x02#8, 0x03#8, 0x04#8, 0x07#8, 0x0B#8, 0x0C#8, 0x0F#8, 0x12#8, 0x13#8,
    0x14#8, 0x17#8, 0x1A#8, 0x1B#8, 0x1C#8, 0x1F#8, 0x22#8, 0x23#8, 0x27#8,
    0x2B#8, 0x2F#8, 0x32#8, 0x33#8, 0x34#8, 0x37#8, 0x3A#8, 0x3B#8, 0x3C#8] ++
  [0x3F#8, 0x42#8, 0x43#8, 0x44#8, 0x47#8, 0x4B#8, 0x4F#8, 0x52#8, 0x53#8,
    0x54#8, 0x57#8, 0x5A#8, 0x5B#8, 0x5C#8, 0x5F#8, 0x62#8, 0x63#8, 0x64#8,
    0x67#8, 0x6B#8, 0x6F#8, 0x72#8, 0x73#8, 0x74#8, 0x77#8, 0x7A#8, 0x7B#8] ++
  [0x7C#8, 0x7F#8, 0x80#8, 0x82#8, 0x83#8, 0x87#8, 0x89#8, 0x8B#8, 0x8F#8,
    0x92#8, 0x93#8, 0x97#8, 0x9B#8, 0x9C#8, 0x9E#8, 0x9F#8, 0xA3#8, 0xA7#8,
    0xAB#8, 0xAF#8, 0xB2#8, 0xB3#8, 0xB7#8, 0xBB#8, 0xBF#8, 0xC2#8, 0xC3#8] ++
  [0xC7#8, 0xCB#8, 0xCF#8, 0xD2#8, 0xD3#8, 0xD4#8, 0xD7#8, 0xDA#8, 0xDB#8,
    0xDC#8, 0xDF#8, 0xE2#8, 0xE3#8, 0xE7#8, 0xEB#8, 0xEF#8, 0xF2#8, 0xF3#8,
    0xF4#8, 0xF7#8, 0xFA#8, 0xFB#8, 0xFC#8, 0xFF#8]

/-- The caller stores bytes at an address and the ones after it, wrapping (R24, R47). -/
def State.storeBytes : State → Addr → List Byte → State
  | s, _, [] => s
  | s, a, b :: bs => (s.callerStore a b).storeBytes (a + 1#16) bs

end Sys2Proof.Machine
end

