-- ==== Sys2Proof/Certificates/Slice0/Obligations.lean ====
section
/-!
DEFINITION. The statements for the provers. `Expected` holds what the statements of 41 to 46 say of one
row each: the bytes, the ROM word, what lookup answers, and the next state `exec` answers, with the address,
crossing, cycles and reads written out from 47_address_resolver in plain arithmetic, not through the
functions of Machine/Operands.lean.
-/
namespace Sys2Proof.Expected

open Sys2Proof.Machine

/-- The page number of an address (R42). -/
def page (a : Addr) : Nat := a.toNat / 256

/-- The little-endian word whose low byte stands at `lo` and whose high byte at `hi` (R10, R32). -/
def wordAt (m : Memory) (lo hi : Addr) : Addr :=
  BitVec.ofNat 16 (256 * (m.read hi).toNat + (m.read lo).toNat)

/-- The word the zero-page pointer `z` holds, both of its bytes read in the zero page (R149, R150). -/
def pointee (m : Memory) (z : Byte) : Addr :=
  wordAt m (BitVec.ofNat 16 z.toNat) (BitVec.ofNat 16 ((z.toNat + 1) % 256))

/-- The two operand bytes of a 16-bit operand, the low byte first (R55). -/
def wordBytes (a : Addr) : List Byte :=
  [BitVec.ofNat 8 (a.toNat % 256), BitVec.ofNat 8 (a.toNat / 256)]

/-- What a row of 41 to 46 says of the instruction `i` whose opcode is `op`: its bytes are `op` and
`operands`, the ROM holds `word`, lookup answers `spec`, and at every state `exec` answers the next state
that differs in the record of the outputs and reads alone (R52, R80, R157, R163, R170; that there is such a
record in State is the model's choice, log 3). -/
def row (i : Instr) (op : Byte) (operands : List Byte) (word : RomWord) (spec : InstructionSpec)
    (address : State → Option Addr) (crossed : State → Bool) (cycles : State → Nat)
    (reads : State → List Addr) : Prop :=
  encode i = op :: operands ∧ Rom.word op = word ∧ lookup op = .ok spec ∧
  ∀ s : State, exec i s = .next
    { s with
      out := some { opcode := op, spec := spec, address := address s, pageCrossed := crossed s
                    totalCycles := cycles s }
      busReads := s.pc :: reads s }

/-- A row of mode Implied (R139). -/
def implied (i : Instr) (op : Byte) (word : RomWord) (mn : Mnemonic) (base : Nat) : Prop :=
  row i op [] word ⟨mn, .implied, 1, base, .none⟩ (fun _ => none) (fun _ => false) (fun _ => base)
    (fun _ => [])

/-- A row of mode Accumulator (R138). -/
def accumulator (i : Instr) (op : Byte) (word : RomWord) (mn : Mnemonic) (base : Nat) : Prop :=
  row i op [] word ⟨mn, .accumulator, 1, base, .none⟩ (fun _ => none) (fun _ => false) (fun _ => base)
    (fun _ => [])

/-- A row of mode Immediate (R140): the address of the literal, which is not read. -/
def immediate (i : Instr) (op : Byte) (word : RomWord) (mn : Mnemonic) (base : Nat) (b : Byte) :
    Prop :=
  row i op [b] word ⟨mn, .immediate, 2, base, .none⟩ (fun s => some (s.pc + 1#16)) (fun _ => false)
    (fun _ => base) (fun _ => [])

/-- A row of mode Zeropage (R141). -/
def zeropage (i : Instr) (op : Byte) (word : RomWord) (mn : Mnemonic) (base : Nat) (b : Byte) :
    Prop :=
  row i op [b] word ⟨mn, .zeropage, 2, base, .none⟩ (fun _ => some (BitVec.ofNat 16 b.toNat))
    (fun _ => false) (fun _ => base) (fun s => [s.pc + 1#16])

/-- A row of mode ZeropageX (R142): the sum wraps within the zero page. -/
def zeropageX (i : Instr) (op : Byte) (word : RomWord) (mn : Mnemonic) (base : Nat) (b : Byte) :
    Prop :=
  row i op [b] word ⟨mn, .zeropageX, 2, base, .none⟩
    (fun s => some (BitVec.ofNat 16 ((b.toNat + s.x.toNat) % 256))) (fun _ => false) (fun _ => base)
    (fun s => [s.pc + 1#16])

/-- A row of mode ZeropageY (R143). -/
def zeropageY (i : Instr) (op : Byte) (word : RomWord) (mn : Mnemonic) (base : Nat) (b : Byte) :
    Prop :=
  row i op [b] word ⟨mn, .zeropageY, 2, base, .none⟩
    (fun s => some (BitVec.ofNat 16 ((b.toNat + s.y.toNat) % 256))) (fun _ => false) (fun _ => base)
    (fun s => [s.pc + 1#16])

/-- A row of mode Absolute (R144). -/
def absolute (i : Instr) (op : Byte) (word : RomWord) (mn : Mnemonic) (base : Nat) (a : Addr) :
    Prop :=
  row i op (wordBytes a) word ⟨mn, .absolute, 3, base, .none⟩ (fun _ => some a) (fun _ => false) (fun _ => base)
    (fun s => [s.pc + 1#16, s.pc + 2#16])

/-- A row of mode AbsoluteX (R145); a crossing costs a cycle in class page-cross penalty alone. -/
def absoluteX (i : Instr) (op : Byte) (word : RomWord) (mn : Mnemonic) (base : Nat)
    (cls : CycleClass) (a : Addr) : Prop :=
  row i op (wordBytes a) word ⟨mn, .absoluteX, 3, base, cls⟩ (fun s => some (a + BitVec.ofNat 16 s.x.toNat))
    (fun s => decide (page a ≠ page (a + BitVec.ofNat 16 s.x.toNat)))
    (fun s => if cls = .pageCross ∧ page a ≠ page (a + BitVec.ofNat 16 s.x.toNat) then base + 1
      else base)
    (fun s => [s.pc + 1#16, s.pc + 2#16])

/-- A row of mode AbsoluteY (R146). -/
def absoluteY (i : Instr) (op : Byte) (word : RomWord) (mn : Mnemonic) (base : Nat)
    (cls : CycleClass) (a : Addr) : Prop :=
  row i op (wordBytes a) word ⟨mn, .absoluteY, 3, base, cls⟩ (fun s => some (a + BitVec.ofNat 16 s.y.toNat))
    (fun s => decide (page a ≠ page (a + BitVec.ofNat 16 s.y.toNat)))
    (fun s => if cls = .pageCross ∧ page a ≠ page (a + BitVec.ofNat 16 s.y.toNat) then base + 1
      else base)
    (fun s => [s.pc + 1#16, s.pc + 2#16])

/-- A row of mode Indirect (R148): the high byte is read in the pointer's own page. -/
def indirect (i : Instr) (op : Byte) (word : RomWord) (mn : Mnemonic) (base : Nat) (p : Addr) :
    Prop :=
  row i op (wordBytes p) word ⟨mn, .indirect, 3, base, .none⟩
    (fun s => some (wordAt s.mem p (BitVec.ofNat 16 (256 * page p + (p.toNat + 1) % 256))))
    (fun _ => false) (fun _ => base)
    (fun s => [s.pc + 1#16, s.pc + 2#16, p, BitVec.ofNat 16 (256 * page p + (p.toNat + 1) % 256)])

/-- A row of mode IndirectX (R149). -/
def indirectX (i : Instr) (op : Byte) (word : RomWord) (mn : Mnemonic) (base : Nat) (b : Byte) :
    Prop :=
  row i op [b] word ⟨mn, .indirectX, 2, base, .none⟩ (fun s => some (pointee s.mem (b + s.x)))
    (fun _ => false) (fun _ => base)
    (fun s => [s.pc + 1#16, BitVec.ofNat 16 ((b.toNat + s.x.toNat) % 256),
      BitVec.ofNat 16 ((b.toNat + s.x.toNat + 1) % 256)])

/-- A row of mode IndirectY (R150). -/
def indirectY (i : Instr) (op : Byte) (word : RomWord) (mn : Mnemonic) (base : Nat)
    (cls : CycleClass) (b : Byte) : Prop :=
  row i op [b] word ⟨mn, .indirectY, 2, base, cls⟩
    (fun s => some (pointee s.mem b + BitVec.ofNat 16 s.y.toNat))
    (fun s => decide (page (pointee s.mem b) ≠ page (pointee s.mem b + BitVec.ofNat 16 s.y.toNat)))
    (fun s => if cls = .pageCross ∧
        page (pointee s.mem b) ≠ page (pointee s.mem b + BitVec.ofNat 16 s.y.toNat) then base + 1
      else base)
    (fun s => [s.pc + 1#16, BitVec.ofNat 16 b.toNat, BitVec.ofNat 16 ((b.toNat + 1) % 256)])

/-- A row of mode Relative (R147, R161) with the signed offset `o`: the total is 2 not taken, 3 taken, 4
taken with a crossing. -/
def relative (i : Instr) (op : Byte) (word : RomWord) (mn : Mnemonic) (o : Int) : Prop :=
  row i op [BitVec.ofInt 8 o] word ⟨mn, .relative, 2, Config.branchBaseCycles, .branch⟩
    (fun s => some (s.pc + 2#16 + BitVec.ofInt 16 o))
    (fun s => decide (page (s.pc + 2#16) ≠ page (s.pc + 2#16 + BitVec.ofInt 16 o)))
    (fun s => if s.bt = false then 2
      else if page (s.pc + 2#16) = page (s.pc + 2#16 + BitVec.ofInt 16 o) then 3 else 4)
    (fun s => [s.pc + 1#16])

end Sys2Proof.Expected

open Sys2Proof Sys2Proof.Machine

/-! ## The rows of 41 to 46: every instruction completes, with these outputs -/

/-- R81 to R86: the 31 load and store rows. -/
def Obligations.LoadStoreRowsComplete : Prop :=
  ∀ (b : Byte) (a : Addr),
    Expected.indirectX (.ldaIndX b) 0xA1#8 0x0D3BB#18 .LDA 6 b ∧
    Expected.zeropage (.ldaZp b) 0xA5#8 0x0753B#18 .LDA 3 b ∧
    Expected.immediate (.ldaImm b) 0xA9#8 0x0523B#18 .LDA 2 b ∧
    Expected.absolute (.ldaAbs a) 0xAD#8 0x098BB#18 .LDA 4 a ∧
    Expected.indirectY (.ldaIndY b) 0xB1#8 0x1B43B#18 .LDA 5 .pageCross b ∧
    Expected.zeropageX (.ldaZpX b) 0xB5#8 0x095BB#18 .LDA 4 b ∧
    Expected.absoluteY (.ldaAbsY a) 0xB9#8 0x199BB#18 .LDA 4 .pageCross a ∧
    Expected.absoluteX (.ldaAbsX a) 0xBD#8 0x1993B#18 .LDA 4 .pageCross a ∧
    Expected.immediate (.ldxImm b) 0xA2#8 0x0523D#18 .LDX 2 b ∧
    Expected.zeropage (.ldxZp b) 0xA6#8 0x0753D#18 .LDX 3 b ∧
    Expected.absolute (.ldxAbs a) 0xAE#8 0x098BD#18 .LDX 4 a ∧
    Expected.zeropageY (.ldxZpY b) 0xB6#8 0x0963D#18 .LDX 4 b ∧
    Expected.absoluteY (.ldxAbsY a) 0xBE#8 0x199BD#18 .LDX 4 .pageCross a ∧
    Expected.immediate (.ldyImm b) 0xA0#8 0x0523F#18 .LDY 2 b ∧
    Expected.zeropage (.ldyZp b) 0xA4#8 0x0753F#18 .LDY 3 b ∧
    Expected.absolute (.ldyAbs a) 0xAC#8 0x098BF#18 .LDY 4 a ∧
    Expected.zeropageX (.ldyZpX b) 0xB4#8 0x095BF#18 .LDY 4 b ∧
    Expected.absoluteX (.ldyAbsX a) 0xBC#8 0x1993F#18 .LDY 4 .pageCross a ∧
    Expected.indirectX (.staIndX b) 0x81#8 0x0D3DF#18 .STA 6 b ∧
    Expected.zeropage (.staZp b) 0x85#8 0x0755F#18 .STA 3 b ∧
    Expected.absolute (.staAbs a) 0x8D#8 0x098DF#18 .STA 4 a ∧
    Expected.indirectY (.staIndY b) 0x91#8 0x0D45F#18 .STA 6 .none b ∧
    Expected.zeropageX (.staZpX b) 0x95#8 0x095DF#18 .STA 4 b ∧
    Expected.absoluteY (.staAbsY a) 0x99#8 0x0B9DF#18 .STA 5 .none a ∧
    Expected.absoluteX (.staAbsX a) 0x9D#8 0x0B95F#18 .STA 5 .none a ∧
    Expected.zeropage (.stxZp b) 0x86#8 0x07561#18 .STX 3 b ∧
    Expected.absolute (.stxAbs a) 0x8E#8 0x098E1#18 .STX 4 a ∧
    Expected.zeropageY (.stxZpY b) 0x96#8 0x09661#18 .STX 4 b ∧
    Expected.zeropage (.styZp b) 0x84#8 0x07563#18 .STY 3 b ∧
    Expected.absolute (.styAbs a) 0x8C#8 0x098E3#18 .STY 4 a ∧
    Expected.zeropageX (.styZpX b) 0x94#8 0x095E3#18 .STY 4 b

/-- R87 to R96: the 10 register-transfer and stack rows. -/
def Obligations.TransferStackRowsComplete : Prop :=
    Expected.implied .tax 0xAA#8 0x04AE5#18 .TAX 2 ∧
    Expected.implied .tay 0xA8#8 0x04AE7#18 .TAY 2 ∧
    Expected.implied .tsx 0xBA#8 0x04AE9#18 .TSX 2 ∧
    Expected.implied .txa 0x8A#8 0x04AEB#18 .TXA 2 ∧
    Expected.implied .txs 0x9A#8 0x04AED#18 .TXS 2 ∧
    Expected.implied .tya 0x98#8 0x04AEF#18 .TYA 2 ∧
    Expected.implied .pha 0x48#8 0x06AC7#18 .PHA 3 ∧
    Expected.implied .php 0x08#8 0x06AC9#18 .PHP 3 ∧
    Expected.implied .pla 0x68#8 0x08ACB#18 .PLA 4 ∧
    Expected.implied .plp 0x28#8 0x08ACD#18 .PLP 4

/-- R97 to R105: the 56 arithmetic, logic, compare and bit-test rows. -/
def Obligations.AluRowsComplete : Prop :=
  ∀ (b : Byte) (a : Addr),
    Expected.indirectX (.adcIndX b) 0x61#8 0x0D381#18 .ADC 6 b ∧
    Expected.zeropage (.adcZp b) 0x65#8 0x07501#18 .ADC 3 b ∧
    Expected.immediate (.adcImm b) 0x69#8 0x05201#18 .ADC 2 b ∧
    Expected.absolute (.adcAbs a) 0x6D#8 0x09881#18 .ADC 4 a ∧
    Expected.indirectY (.adcIndY b) 0x71#8 0x1B401#18 .ADC 5 .pageCross b ∧
    Expected.zeropageX (.adcZpX b) 0x75#8 0x09581#18 .ADC 4 b ∧
    Expected.absoluteY (.adcAbsY a) 0x79#8 0x19981#18 .ADC 4 .pageCross a ∧
    Expected.absoluteX (.adcAbsX a) 0x7D#8 0x19901#18 .ADC 4 .pageCross a ∧
    Expected.indirectX (.sbcIndX b) 0xE1#8 0x0D3D7#18 .SBC 6 b ∧
    Expected.zeropage (.sbcZp b) 0xE5#8 0x07557#18 .SBC 3 b ∧
    Expected.immediate (.sbcImm b) 0xE9#8 0x05257#18 .SBC 2 b ∧
    Expected.absolute (.sbcAbs a) 0xED#8 0x098D7#18 .SBC 4 a ∧
    Expected.indirectY (.sbcIndY b) 0xF1#8 0x1B457#18 .SBC 5 .pageCross b ∧
    Expected.zeropageX (.sbcZpX b) 0xF5#8 0x095D7#18 .SBC 4 b ∧
    Expected.absoluteY (.sbcAbsY a) 0xF9#8 0x199D7#18 .SBC 4 .pageCross a ∧
    Expected.absoluteX (.sbcAbsX a) 0xFD#8 0x19957#18 .SBC 4 .pageCross a ∧
    Expected.indirectX (.andIndX b) 0x21#8 0x0D383#18 .AND 6 b ∧
    Expected.zeropage (.andZp b) 0x25#8 0x07503#18 .AND 3 b ∧
    Expected.immediate (.andImm b) 0x29#8 0x05203#18 .AND 2 b ∧
    Expected.absolute (.andAbs a) 0x2D#8 0x09883#18 .AND 4 a ∧
    Expected.indirectY (.andIndY b) 0x31#8 0x1B403#18 .AND 5 .pageCross b ∧
    Expected.zeropageX (.andZpX b) 0x35#8 0x09583#18 .AND 4 b ∧
    Expected.absoluteY (.andAbsY a) 0x39#8 0x19983#18 .AND 4 .pageCross a ∧
    Expected.absoluteX (.andAbsX a) 0x3D#8 0x19903#18 .AND 4 .pageCross a ∧
    Expected.indirectX (.oraIndX b) 0x01#8 0x0D3C5#18 .ORA 6 b ∧
    Expected.zeropage (.oraZp b) 0x05#8 0x07545#18 .ORA 3 b ∧
    Expected.immediate (.oraImm b) 0x09#8 0x05245#18 .ORA 2 b ∧
    Expected.absolute (.oraAbs a) 0x0D#8 0x098C5#18 .ORA 4 a ∧
    Expected.indirectY (.oraIndY b) 0x11#8 0x1B445#18 .ORA 5 .pageCross b ∧
    Expected.zeropageX (.oraZpX b) 0x15#8 0x095C5#18 .ORA 4 b ∧
    Expected.absoluteY (.oraAbsY a) 0x19#8 0x199C5#18 .ORA 4 .pageCross a ∧
    Expected.absoluteX (.oraAbsX a) 0x1D#8 0x19945#18 .ORA 4 .pageCross a ∧
    Expected.indirectX (.eorIndX b) 0x41#8 0x0D3AF#18 .EOR 6 b ∧
    Expected.zeropage (.eorZp b) 0x45#8 0x0752F#18 .EOR 3 b ∧
    Expected.immediate (.eorImm b) 0x49#8 0x0522F#18 .EOR 2 b ∧
    Expected.absolute (.eorAbs a) 0x4D#8 0x098AF#18 .EOR 4 a ∧
    Expected.indirectY (.eorIndY b) 0x51#8 0x1B42F#18 .EOR 5 .pageCross b ∧
    Expected.zeropageX (.eorZpX b) 0x55#8 0x095AF#18 .EOR 4 b ∧
    Expected.absoluteY (.eorAbsY a) 0x59#8 0x199AF#18 .EOR 4 .pageCross a ∧
    Expected.absoluteX (.eorAbsX a) 0x5D#8 0x1992F#18 .EOR 4 .pageCross a ∧
    Expected.indirectX (.cmpIndX b) 0xC1#8 0x0D3A3#18 .CMP 6 b ∧
    Expected.zeropage (.cmpZp b) 0xC5#8 0x07523#18 .CMP 3 b ∧
    Expected.immediate (.cmpImm b) 0xC9#8 0x05223#18 .CMP 2 b ∧
    Expected.absolute (.cmpAbs a) 0xCD#8 0x098A3#18 .CMP 4 a ∧
    Expected.indirectY (.cmpIndY b) 0xD1#8 0x1B423#18 .CMP 5 .pageCross b ∧
    Expected.zeropageX (.cmpZpX b) 0xD5#8 0x095A3#18 .CMP 4 b ∧
    Expected.absoluteY (.cmpAbsY a) 0xD9#8 0x199A3#18 .CMP 4 .pageCross a ∧
    Expected.absoluteX (.cmpAbsX a) 0xDD#8 0x19923#18 .CMP 4 .pageCross a ∧
    Expected.immediate (.cpxImm b) 0xE0#8 0x05225#18 .CPX 2 b ∧
    Expected.zeropage (.cpxZp b) 0xE4#8 0x07525#18 .CPX 3 b ∧
    Expected.absolute (.cpxAbs a) 0xEC#8 0x098A5#18 .CPX 4 a ∧
    Expected.immediate (.cpyImm b) 0xC0#8 0x05227#18 .CPY 2 b ∧
    Expected.zeropage (.cpyZp b) 0xC4#8 0x07527#18 .CPY 3 b ∧
    Expected.absolute (.cpyAbs a) 0xCC#8 0x098A7#18 .CPY 4 a ∧
    Expected.zeropage (.bitZp b) 0x24#8 0x0750D#18 .BIT 3 b ∧
    Expected.absolute (.bitAbs a) 0x2C#8 0x0988D#18 .BIT 4 a

/-- R106 to R115: the 32 shift, rotate, increment and decrement rows. -/
def Obligations.ShiftIncDecRowsComplete : Prop :=
  ∀ (b : Byte) (a : Addr),
    Expected.zeropage (.aslZp b) 0x06#8 0x0B505#18 .ASL 5 b ∧
    Expected.accumulator .aslAcc 0x0A#8 0x04805#18 .ASL 2 ∧
    Expected.absolute (.aslAbs a) 0x0E#8 0x0D885#18 .ASL 6 a ∧
    Expected.zeropageX (.aslZpX b) 0x16#8 0x0D585#18 .ASL 6 b ∧
    Expected.absoluteX (.aslAbsX a) 0x1E#8 0x0F905#18 .ASL 7 .none a ∧
    Expected.zeropage (.lsrZp b) 0x46#8 0x0B541#18 .LSR 5 b ∧
    Expected.accumulator .lsrAcc 0x4A#8 0x04841#18 .LSR 2 ∧
    Expected.absolute (.lsrAbs a) 0x4E#8 0x0D8C1#18 .LSR 6 a ∧
    Expected.zeropageX (.lsrZpX b) 0x56#8 0x0D5C1#18 .LSR 6 b ∧
    Expected.absoluteX (.lsrAbsX a) 0x5E#8 0x0F941#18 .LSR 7 .none a ∧
    Expected.zeropage (.rolZp b) 0x26#8 0x0B54F#18 .ROL 5 b ∧
    Expected.accumulator .rolAcc 0x2A#8 0x0484F#18 .ROL 2 ∧
    Expected.absolute (.rolAbs a) 0x2E#8 0x0D8CF#18 .ROL 6 a ∧
    Expected.zeropageX (.rolZpX b) 0x36#8 0x0D5CF#18 .ROL 6 b ∧
    Expected.absoluteX (.rolAbsX a) 0x3E#8 0x0F94F#18 .ROL 7 .none a ∧
    Expected.zeropage (.rorZp b) 0x66#8 0x0B551#18 .ROR 5 b ∧
    Expected.accumulator .rorAcc 0x6A#8 0x04851#18 .ROR 2 ∧
    Expected.absolute (.rorAbs a) 0x6E#8 0x0D8D1#18 .ROR 6 a ∧
    Expected.zeropageX (.rorZpX b) 0x76#8 0x0D5D1#18 .ROR 6 b ∧
    Expected.absoluteX (.rorAbsX a) 0x7E#8 0x0F951#18 .ROR 7 .none a ∧
    Expected.zeropage (.incZp b) 0xE6#8 0x0B531#18 .INC 5 b ∧
    Expected.absolute (.incAbs a) 0xEE#8 0x0D8B1#18 .INC 6 a ∧
    Expected.zeropageX (.incZpX b) 0xF6#8 0x0D5B1#18 .INC 6 b ∧
    Expected.absoluteX (.incAbsX a) 0xFE#8 0x0F931#18 .INC 7 .none a ∧
    Expected.zeropage (.decZp b) 0xC6#8 0x0B529#18 .DEC 5 b ∧
    Expected.absolute (.decAbs a) 0xCE#8 0x0D8A9#18 .DEC 6 a ∧
    Expected.zeropageX (.decZpX b) 0xD6#8 0x0D5A9#18 .DEC 6 b ∧
    Expected.absoluteX (.decAbsX a) 0xDE#8 0x0F929#18 .DEC 7 .none a ∧
    Expected.implied .inx 0xE8#8 0x04AB3#18 .INX 2 ∧
    Expected.implied .iny 0xC8#8 0x04AB5#18 .INY 2 ∧
    Expected.implied .dex 0xCA#8 0x04AAB#18 .DEX 2 ∧
    Expected.implied .dey 0x88#8 0x04AAD#18 .DEY 2

/-- R116 to R123: the eight conditional branches, at every signed offset the operand byte holds (R56). -/
def Obligations.BranchRowsComplete : Prop :=
  ∀ (o : Int), -128 ≤ o → o ≤ 127 →
    Expected.relative (.bpl o) 0x10#8 0x25493#18 .BPL o ∧
    Expected.relative (.bmi o) 0x30#8 0x2548F#18 .BMI o ∧
    Expected.relative (.bvc o) 0x50#8 0x25497#18 .BVC o ∧
    Expected.relative (.bvs o) 0x70#8 0x25499#18 .BVS o ∧
    Expected.relative (.bcc o) 0x90#8 0x25487#18 .BCC o ∧
    Expected.relative (.bcs o) 0xB0#8 0x25489#18 .BCS o ∧
    Expected.relative (.bne o) 0xD0#8 0x25491#18 .BNE o ∧
    Expected.relative (.beq o) 0xF0#8 0x2548B#18 .BEQ o

/-- R124 to R128: JMP, JSR, RTS, RTI and BRK. -/
def Obligations.JumpReturnBreakRowsComplete : Prop :=
  ∀ (a : Addr),
    Expected.absolute (.jmpAbs a) 0x4C#8 0x078B7#18 .JMP 3 a ∧
    Expected.indirect (.jmpInd a) 0x6C#8 0x0BB37#18 .JMP 5 a ∧
    Expected.absolute (.jsrAbs a) 0x20#8 0x0D8B9#18 .JSR 6 a ∧
    Expected.implied .rts 0x60#8 0x0CAD5#18 .RTS 6 ∧
    Expected.implied .rti 0x40#8 0x0CAD3#18 .RTI 6 ∧
    Expected.implied .brk 0x00#8 0x0EA95#18 .BRK 7

/-- R129 to R136: the flag instructions and NOP. -/
def Obligations.FlagNopRowsComplete : Prop :=
    Expected.implied .clc 0x18#8 0x04A9B#18 .CLC 2 ∧
    Expected.implied .sec 0x38#8 0x04AD9#18 .SEC 2 ∧
    Expected.implied .cli 0x58#8 0x04A9F#18 .CLI 2 ∧
    Expected.implied .sei 0x78#8 0x04ADD#18 .SEI 2 ∧
    Expected.implied .cld 0xD8#8 0x04A9D#18 .CLD 2 ∧
    Expected.implied .sed 0xF8#8 0x04ADB#18 .SED 2 ∧
    Expected.implied .clv 0xB8#8 0x04AA1#18 .CLV 2 ∧
    Expected.implied .nop 0xEA#8 0x04AC3#18 .NOP 2

/-! ## The step, the decoder and the whole block -/

/-- R52, R24: a step is the meaning of the instruction that stands at `PC`. -/
def Obligations.StepRunsDecodedInstruction : Prop :=
  ∀ (s : State) (i : Instr),
    decodeInstr (s.mem.read s.pc) (s.mem.read (s.pc + 1#16)) (s.mem.read (s.pc + 2#16)) = some i →
    i.wellFormed = true ∧ step s = exec i s

/-- R63, R53: a word of each of the 13 modes and of each family, bit by bit from the bytes column; R56: both ends
of the branch offset; R64: undefined values. -/
def Obligations.SpecWordsDecode : Prop :=
  decodeInstr 0b00001010#8 0x5A#8 0xA5#8 = some .aslAcc ∧
  decodeInstr 0b10101010#8 0x5A#8 0xA5#8 = some .tax ∧
  decodeInstr 0b01001000#8 0x5A#8 0xA5#8 = some .pha ∧
  decodeInstr 0b11101010#8 0x5A#8 0xA5#8 = some .nop ∧
  decodeInstr 0b10101001#8 0x10#8 0xA5#8 = some (.ldaImm 0x10#8) ∧
  decodeInstr 0b00100100#8 0x9C#8 0xA5#8 = some (.bitZp 0x9C#8) ∧
  decodeInstr 0b11110110#8 0xFE#8 0xA5#8 = some (.incZpX 0xFE#8) ∧
  decodeInstr 0b10010110#8 0xFF#8 0xA5#8 = some (.stxZpY 0xFF#8) ∧
  decodeInstr 0b11110000#8 0x80#8 0xA5#8 = some (.beq (-128)) ∧
  decodeInstr 0b11110000#8 0x7F#8 0xA5#8 = some (.beq 127) ∧
  decodeInstr 0b00100001#8 0xFF#8 0xA5#8 = some (.andIndX 0xFF#8) ∧
  decodeInstr 0b01110001#8 0x40#8 0xA5#8 = some (.adcIndY 0x40#8) ∧
  decodeInstr 0b00100000#8 0x34#8 0x12#8 = some (.jsrAbs 0x1234#16) ∧
  decodeInstr 0b10111101#8 0xFF#8 0x20#8 = some (.ldaAbsX 0x20FF#16) ∧
  decodeInstr 0b01011001#8 0x80#8 0x44#8 = some (.eorAbsY 0x4480#16) ∧
  decodeInstr 0b01101100#8 0xFF#8 0x30#8 = some (.jmpInd 0x30FF#16) ∧
  decodeInstr 0x02#8 0x00#8 0x00#8 = none ∧
  decodeInstr 0xEB#8 0x01#8 0x00#8 = none ∧
  decodeInstr 0x9E#8 0x00#8 0x20#8 = none

/-- R52, R53, R63: no bit of an encoding is dropped, for every instruction and operand. -/
def Obligations.DecodeOfEncodeIsInstruction : Prop :=
  ∀ (i : Instr) (rest : List Byte), i.wellFormed = true →
    decodeBytes (encode i ++ rest) = .ok (i, rest)

/-- R61, R63: every decoded word has one meaning; the other direction of the round trip. -/
def Obligations.DecodedBytesAreTheEncoding : Prop :=
  ∀ (bytes rest : List Byte) (i : Instr), decodeBytes bytes = .ok (i, rest) →
    i.wellFormed = true ∧ bytes = encode i ++ rest

/-- R157: the step, which decodes to an instruction and runs its meaning, is the decode operation the
spec writes over the ROM and the resolver. The recorded reads are in the model's own record (log 3). -/
def Obligations.StepRefinesBlockDecode : Prop :=
  ∀ s : State,
    match blockDecode s.pc s.x s.y s.bt s.mem with
    | .ok d =>
      step s = .next { s with out := some d, busReads := blockReads s.pc s.x s.mem }
    | .error (.unknownOpcode op) =>
      op = s.mem.read s.pc ∧ step s = .fault (.unknownOpcode op) ∧
        blockReads s.pc s.x s.mem = [s.pc]
    | .error (.unstoredCode _) => False

/-- R171, R64: the one error, exactly at the undefined values. -/
def Obligations.UndefinedOpcodeFaults : Prop :=
  ∀ (s : State) (op : Byte),
    (step s = .fault (.unknownOpcode op) ↔ op = s.mem.read s.pc ∧ op ∈ undefinedOpcodes) ∧
    (lookup op = .error (.unknownOpcode op) ↔ op ∈ undefinedOpcodes) ∧
    (step s = .fault (.unknownOpcode op) → s.signals = some
      { err := true, opc := op, mnem := none, mode := none, size := none, base := none
        eaValid := none, ea := none, px := none, total := none })

/-- R166: the only outcomes are `Ok` and `Err(UnknownOpcode)`. The reads are counted in the model's own record
of them (log 3). -/
def Obligations.DefinedOpcodeCompletes : Prop :=
  ∀ s : State,
    (s.mem.read s.pc ∉ undefinedOpcodes →
      ∃ t d, step s = .next t ∧ t.out = some d ∧ d.opcode = s.mem.read s.pc ∧
        1 ≤ t.busReads.length ∧ t.busReads.length ≤ 5) ∧
    (s.mem.read s.pc ∈ undefinedOpcodes →
      step s = .fault (.unknownOpcode (s.mem.read s.pc)))

/-- R15, R17, R34, R170: the frame of every instruction; every form stores nothing. -/
def Obligations.ExecFrame : Prop :=
  ∀ (i : Instr) (s t : State), exec i s = .next t →
    t.pc = s.pc ∧ t.x = s.x ∧ t.y = s.y ∧ t.bt = s.bt ∧ t.mem = s.mem ∧
    (∀ a : Addr, t.mem.read a = s.mem.read a) ∧ t.out ≠ none ∧ t.busReads ≠ []

/-- R165: decode is idempotent. -/
def Obligations.StepIsIdempotent : Prop :=
  ∀ s t : State, step s = .next t → step t = .next t

/-- R28: an evaluation reads nothing an earlier one left. -/
def Obligations.OutcomeIgnoresHistory : Prop :=
  ∀ s s2 : State, s2.pc = s.pc → s2.x = s.x → s2.y = s.y → s2.bt = s.bt → s2.mem = s.mem →
    (∃ op, step s = .fault (.unknownOpcode op) ∧ step s2 = .fault (.unknownOpcode op)) ∨
    (∃ t, step s = .next t ∧ step s2 = .next t)

/-- R165: the footprint of an evaluation, non-interference over the rest of memory. That the reads are recorded
in `busReads` is the model's choice (log 3). -/
def Obligations.OutcomeDependsOnlyOnBytesRead : Prop :=
  ∀ s s2 : State, s2.pc = s.pc → s2.x = s.x → s2.y = s.y → s2.bt = s.bt →
    Memory.AgreeOn (blockReads s.pc s.x s.mem) s.mem s2.mem →
    (∃ op, step s = .fault (.unknownOpcode op) ∧ step s2 = .fault (.unknownOpcode op)) ∨
    (∃ t t2, step s = .next t ∧ step s2 = .next t2 ∧ t2.out = t.out ∧ t2.busReads = t.busReads ∧
      t.busReads = blockReads s.pc s.x s.mem)

/-- R77, R152, R163, R164, R167, R37, R153: the invariant of State, kept by every step from every
state. -/
def Obligations.StepKeepsInvariant : Prop :=
  ∀ s t : State, s.Inv → step s = .next t → t.Inv

/-- R185, R186: the state a run begins in. Its input values are the model's own (log 4 to log 7). -/
def Obligations.ResetHasInvariant : Prop :=
  State.reset.Inv

/-- R186: no held output. The input values are the model's choice, log 4 to log 7 (DESIGN CHOICE). -/
def Obligations.ResetState : Prop :=
  State.reset.out = none ∧ State.reset.busReads = [] ∧ State.reset.pc = 0x0000#16 ∧
  State.reset.x = 0x00#8 ∧ State.reset.y = 0x00#8 ∧ State.reset.bt = false ∧
  ∀ a : Addr, State.reset.mem.read a = 0x00#8

/-- R47, R191, R24: a store completed before an evaluation is seen by it; no fetched byte is kept. -/
def Obligations.StoredInstructionRuns : Prop :=
  ∀ (i : Instr) (s : State), i.wellFormed = true → s.mem.wf = true →
    step (s.storeBytes s.pc (encode i)) = exec i (s.storeBytes s.pc (encode i))

/-- R47, R172: no stale instruction, no silent default. -/
def Obligations.StoredUndefinedOpcodeFaults : Prop :=
  ∀ (s : State) (op : Byte), s.mem.wf = true → op ∈ undefinedOpcodes →
    step (s.callerStore s.pc op) = .fault (.unknownOpcode op)

/-- R20, R51, D12: the parameter `memory` is a total function; canonical lists stand for all of them. -/
def Obligations.MemorySnapshotsAreCanonicalLists : Prop :=
  ∀ f : Addr → Byte,
    (∃ m : Memory, m.wf = true ∧ ∀ a : Addr, m.read a = f a) ∧
    (∀ m m' : Memory, m.wf = true → m'.wf = true →
      (∀ a : Addr, m.read a = f a) → (∀ a : Addr, m'.read a = f a) → m = m')

/-! ## The decode ROM -/

/-- R69: lookup, field by field. -/
def Obligations.LookupReadsRomWord : Prop :=
  ∀ op : Byte,
    ((Rom.word op).extractLsb' 0 1 = 0#1 → lookup op = .error (.unknownOpcode op)) ∧
    ((Rom.word op).extractLsb' 0 1 = 1#1 → ∃ spec, lookup op = .ok spec ∧
      mnemonicCode spec.mnemonic = ((Rom.word op).extractLsb' 1 6).toNat ∧
      modeCode spec.mode = ((Rom.word op).extractLsb' 7 4).toNat ∧
      spec.size = ((Rom.word op).extractLsb' 11 2).toNat ∧
      spec.baseCycles = ((Rom.word op).extractLsb' 13 3).toNat ∧
      classCode spec.cls = ((Rom.word op).extractLsb' 16 2).toNat)

/-- R62: `ROM[op] = V | MNEM << 1 | MODE << 7 | SIZE << 11 | BASE << 13 | CLASS << 16`. -/
def Obligations.RomWordLayout : Prop :=
  ∀ op : Byte,
    (op ∈ undefinedOpcodes → Rom.word op = 0#18) ∧
    (op ∉ undefinedOpcodes → ∃ spec, lookup op = .ok spec ∧
      (Rom.word op).toNat = 1 + 2 * mnemonicCode spec.mnemonic + 128 * modeCode spec.mode +
        2048 * spec.size + 8192 * spec.baseCycles + 65536 * classCode spec.cls)

/-- R77 (a) to (e). -/
def Obligations.RomInvariants : Prop :=
  ∀ (op : Byte) (spec : InstructionSpec), lookup op = .ok spec →
    spec.size = 1 + extraBytes spec.mode ∧
    2 ≤ spec.baseCycles ∧ spec.baseCycles ≤ 7 ∧
    (spec.cls = .branch ↔ spec.mode = .relative) ∧
    (spec.cls = .pageCross →
      spec.mode = .absoluteX ∨ spec.mode = .absoluteY ∨ spec.mode = .indirectY) ∧
    (Rom.mnemField (Rom.word op)).toNat ≤ 55 ∧ (Rom.modeField (Rom.word op)).toNat ≤ 12

/-- R7, R64: 151 and 105; R71: exactly one spec for a defined value, none for an undefined one. -/
def Obligations.OpcodeCounts : Prop :=
  ((List.range 256).filter (fun n => opcodeDefined (BitVec.ofNat 8 n))).length =
    Config.opcodesDefined ∧
  ((List.range 256).filter (fun n => !opcodeDefined (BitVec.ofNat 8 n))).length =
    Config.opcodesUndefined ∧
  undefinedOpcodes.length = Config.opcodesUndefined ∧ undefinedOpcodes.Nodup ∧
  (∀ op : Byte, op ∈ undefinedOpcodes ↔ opcodeDefined op = false) ∧
  ∀ op : Byte,
    (opcodeDefined op = true →
      ∃ spec, lookup op = .ok spec ∧ ∀ spec', lookup op = .ok spec' → spec' = spec) ∧
    (opcodeDefined op = false → ∀ spec, lookup op ≠ .ok spec)

/-- R78 and the opcode list of R74. -/
def Obligations.BranchClassIsExactlyEight : Prop :=
  ∀ (op : Byte) (spec : InstructionSpec), lookup op = .ok spec →
    (spec.cls = .branch ↔
      op ∈ [0x10#8, 0x30#8, 0x50#8, 0x70#8, 0x90#8, 0xB0#8, 0xD0#8, 0xF0#8]) ∧
    (spec.cls = .branch → spec.mode = .relative ∧ spec.size = 2 ∧ spec.baseCycles = 2)

/-- R75: the 23 opcodes. -/
def Obligations.PageCrossClassIsExactlyTwentyThree : Prop :=
  ∀ (op : Byte) (spec : InstructionSpec), lookup op = .ok spec →
    (spec.cls = .pageCross ↔
      op ∈ [0x11#8, 0x19#8, 0x1D#8, 0x31#8, 0x39#8, 0x3D#8, 0x51#8, 0x59#8, 0x5D#8, 0x71#8, 0x79#8,
        0x7D#8, 0xB1#8, 0xB9#8, 0xBC#8, 0xBD#8, 0xBE#8, 0xD1#8, 0xD9#8, 0xDD#8, 0xF1#8, 0xF9#8,
        0xFD#8]) ∧
    (spec.cls = .pageCross → ∀ bt : Bool,
      totalCycles spec bt true = spec.baseCycles + 1 ∧ totalCycles spec bt false = spec.baseCycles)

/-- R58, R59, and the codes of R60. -/
def Obligations.FieldCodes : Prop :=
  (modeNames = [.accumulator, .absolute, .absoluteX, .absoluteY, .immediate, .implied, .indirect,
    .indirectX, .indirectY, .relative, .zeropage, .zeropageX, .zeropageY]) ∧
  (mnemonicNames.take 28 = [.ADC, .AND, .ASL, .BCC, .BCS, .BEQ, .BIT, .BMI, .BNE, .BPL, .BRK, .BVC,
      .BVS, .CLC, .CLD, .CLI, .CLV, .CMP, .CPX, .CPY, .DEC, .DEX, .DEY, .EOR, .INC, .INX, .INY, .JMP] ∧
    mnemonicNames.drop 28 = [.JSR, .LDA, .LDX, .LDY, .LSR, .NOP, .ORA, .PHA, .PHP, .PLA, .PLP, .ROL,
      .ROR, .RTI, .RTS, .SBC, .SEC, .SED, .SEI, .STA, .STX, .STY, .TAX, .TAY, .TSX, .TXA,
      .TXS, .TYA]) ∧
  (∀ m : Mode, modeOfCode (BitVec.ofNat 4 (modeCode m)) = some m) ∧
  (∀ m : Mnemonic, mnemonicOfCode (BitVec.ofNat 6 (mnemonicCode m)) = some m) ∧
  (classCode .none = 0 ∧ classCode .pageCross = 1 ∧ classCode .branch = 2) ∧
  (∀ c : CycleClass, classOfCode (BitVec.ofNat 2 (classCode c)) = some c) ∧
  (∀ c : BitVec 4, modeOfCode c = none ↔ 13 ≤ c.toNat) ∧
  (∀ c : BitVec 6, mnemonicOfCode c = none ↔ 56 ≤ c.toNat) ∧
  (∀ c : BitVec 2, classOfCode c = none ↔ c = 3#2) ∧
  (∀ op : Byte, (Rom.modeField (Rom.word op)).toNat ≤ 12 ∧
    (Rom.mnemField (Rom.word op)).toNat ≤ 55 ∧ Rom.classField (Rom.word op) ≠ 3#2)

/-! ## The addressing-mode resolver -/

/-- R138, R139, R140, R141, R144: what the five modes resolve to, and what they read. -/
def Obligations.ResolverUnindexedModes : Prop :=
  ∀ (pc : Addr) (x y : Byte) (m : Memory),
    resolve .accumulator pc x y m = ⟨none, 0, false⟩ ∧
    resolve .implied pc x y m = ⟨none, 0, false⟩ ∧
    resolve .immediate pc x y m = ⟨some (BitVec.ofNat 16 (pc.toNat + 1)), 1, false⟩ ∧
    resolve .zeropage pc x y m =
      ⟨some (BitVec.ofNat 16 (m.read (BitVec.ofNat 16 (pc.toNat + 1))).toNat), 1, false⟩ ∧
    resolve .absolute pc x y m =
      ⟨some (Expected.wordAt m (BitVec.ofNat 16 (pc.toNat + 1)) (BitVec.ofNat 16 (pc.toNat + 2))), 2,
        false⟩ ∧
    ∀ b1 b2 : Byte,
      resolverReads .accumulator b1 b2 pc x = [] ∧ resolverReads .implied b1 b2 pc x = [] ∧
      resolverReads .immediate b1 b2 pc x = [] ∧
      resolverReads .zeropage b1 b2 pc x = [BitVec.ofNat 16 (pc.toNat + 1)] ∧
      resolverReads .absolute b1 b2 pc x =
        [BitVec.ofNat 16 (pc.toNat + 1), BitVec.ofNat 16 (pc.toNat + 2)]

/-- R142, R143 (and R37). -/
def Obligations.ResolverZeroPageIndexedWraps : Prop :=
  ∀ (pc : Addr) (x y : Byte) (m : Memory),
    resolve .zeropageX pc x y m =
      ⟨some (BitVec.ofNat 16 (((m.read (pc + 1#16)).toNat + x.toNat) % 256)), 1, false⟩ ∧
    resolve .zeropageY pc x y m =
      ⟨some (BitVec.ofNat 16 (((m.read (pc + 1#16)).toNat + y.toNat) % 256)), 1, false⟩

/-- R145, R146; the pages of base and base + index differ exactly when the low bytes carry. -/
def Obligations.ResolverAbsoluteIndexed : Prop :=
  ∀ (pc : Addr) (x y : Byte) (m : Memory),
    let base : Addr := Expected.wordAt m (pc + 1#16) (pc + 2#16)
    let eaX : Addr := BitVec.ofNat 16 (base.toNat + x.toNat)
    let eaY : Addr := BitVec.ofNat 16 (base.toNat + y.toNat)
    resolve .absoluteX pc x y m =
      ⟨some eaX, 2, decide (Expected.page base ≠ Expected.page eaX)⟩ ∧
    resolve .absoluteY pc x y m =
      ⟨some eaY, 2, decide (Expected.page base ≠ Expected.page eaY)⟩ ∧
    (Expected.page base ≠ Expected.page eaX ↔ 256 ≤ (m.read (pc + 1#16)).toNat + x.toNat) ∧
    (Expected.page base ≠ Expected.page eaY ↔ 256 ≤ (m.read (pc + 1#16)).toNat + y.toNat)

/-- R147 (and R56). -/
def Obligations.ResolverRelative : Prop :=
  ∀ (pc : Addr) (x y : Byte) (m : Memory),
    let o : Int := if (m.read (pc + 1#16)).toNat < 128 then (m.read (pc + 1#16)).toNat
      else (m.read (pc + 1#16)).toNat - 256
    let target : Addr := BitVec.ofInt 16 (pc.toNat + 2 + o)
    resolve .relative pc x y m =
      ⟨some target, 1, decide (Expected.page (pc + 2#16) ≠ Expected.page target)⟩

/-- R148: the page-wrap quirk. -/
def Obligations.ResolverIndirectPageWrap : Prop :=
  ∀ (pc : Addr) (x y : Byte) (m : Memory),
    let p : Addr := Expected.wordAt m (pc + 1#16) (pc + 2#16)
    (p.toNat % 256 ≠ 255 →
      resolve .indirect pc x y m = ⟨some (Expected.wordAt m p (p + 1#16)), 2, false⟩) ∧
    (p.toNat % 256 = 255 →
      resolve .indirect pc x y m = ⟨some (Expected.wordAt m p (p - 255#16)), 2, false⟩)

/-- R149, R150. -/
def Obligations.ResolverIndexedIndirect : Prop :=
  ∀ (pc : Addr) (x y : Byte) (m : Memory),
    resolve .indirectX pc x y m =
      ⟨some (Expected.pointee m (m.read (pc + 1#16) + x)), 1, false⟩ ∧
    (let base : Addr := Expected.pointee m (m.read (pc + 1#16))
     let ea : Addr := BitVec.ofNat 16 (base.toNat + y.toNat)
     resolve .indirectY pc x y m =
       ⟨some ea, 1, decide (Expected.page base ≠ Expected.page ea)⟩)

/-- R151. -/
def Obligations.ResolverExtraBytes : Prop :=
  ∀ (mode : Mode) (pc : Addr) (x y : Byte) (m : Memory),
    ((resolve mode pc x y m).extraBytes =
      if mode = .accumulator ∨ mode = .implied then 0
      else if mode = .absolute ∨ mode = .absoluteX ∨ mode = .absoluteY ∨ mode = .indirect then 2
      else 1) ∧
    ∀ (op : Byte) (spec : InstructionSpec), lookup op = .ok spec → spec.mode = mode →
      (resolve mode pc x y m).extraBytes = spec.size - 1

/-- R18: no other mode reads them. -/
def Obligations.IndexRegistersReadOnlyByTheirModes : Prop :=
  ∀ (mode : Mode) (pc : Addr) (x x' y y' : Byte) (m : Memory),
    (mode ≠ .zeropageX → mode ≠ .absoluteX → mode ≠ .indirectX →
      resolve mode pc x y m = resolve mode pc x' y m) ∧
    (mode ≠ .zeropageY → mode ≠ .absoluteY → mode ≠ .indirectY →
      resolve mode pc x y m = resolve mode pc x y' m) ∧
    (mode = .zeropageX ∨ mode = .absoluteX →
      (resolve mode pc x y m = resolve mode pc x' y m ↔ x = x')) ∧
    (mode = .zeropageY ∨ mode = .absoluteY ∨ mode = .indirectY →
      (resolve mode pc x y m = resolve mode pc x y' m ↔ y = y')) ∧
    (mode = .indirectX → ∃ m', resolve mode pc 0#8 y m' ≠ resolve mode pc 1#8 y m')

/-! ## Whole-machine rules over every step -/

/-- R19: `BT` is read only for the branch class. -/
def Obligations.BranchTakenReadOnlyByBranches : Prop :=
  ∀ (s : State) (b : Bool),
    s.mem.read s.pc ∉ [0x10#8, 0x30#8, 0x50#8, 0x70#8, 0x90#8, 0xB0#8, 0xD0#8, 0xF0#8] →
    (∃ op, step s = .fault (.unknownOpcode op) ∧
      step { s with bt := b } = .fault (.unknownOpcode op)) ∨
    (∃ t, step s = .next t ∧ step { s with bt := b } = .next { t with bt := b })

/-- R164. -/
def Obligations.AddressAbsentExactly : Prop :=
  ∀ (s t : State) (d : DecodedInstruction), step s = .next t → t.out = some d →
    (d.address = none ↔ d.spec.mode = .accumulator ∨ d.spec.mode = .implied)

/-- R152. -/
def Obligations.PageCrossingOnlyInFourModes : Prop :=
  (∀ (mode : Mode) (pc : Addr) (x y : Byte) (m : Memory),
    (resolve mode pc x y m).pageCrossed = true →
      mode = .absoluteX ∨ mode = .absoluteY ∨ mode = .indirectY ∨ mode = .relative) ∧
  (∀ mode : Mode, mode ∈ [.absoluteX, .absoluteY, .indirectY, .relative] →
    ∃ (pc : Addr) (x y : Byte) (m : Memory), (resolve mode pc x y m).pageCrossed = true)

/-- R160, R162. -/
def Obligations.CycleTotalRule : Prop :=
  ∀ (s t : State) (d : DecodedInstruction), step s = .next t → t.out = some d →
    d.totalCycles = d.spec.baseCycles +
      (if d.spec.cls = .branch ∧ s.bt = true then 1 else 0) +
      (if d.spec.cls = .branch ∧ s.bt = true ∧ d.pageCrossed = true then 1 else 0) +
      (if d.spec.cls = .pageCross ∧ d.pageCrossed = true then 1 else 0)

/-- R167. -/
def Obligations.CycleTotalRange : Prop :=
  ∀ (s t : State) (d : DecodedInstruction), step s = .next t → t.out = some d →
    2 ≤ d.totalCycles ∧ d.totalCycles ≤ 7 ∧
    (d.spec.cls = .none → d.totalCycles = d.spec.baseCycles) ∧
    (d.spec.cls = .pageCross →
      ((d.spec.mode = .absoluteX ∨ d.spec.mode = .absoluteY) ∧
        (d.totalCycles = 4 ∨ d.totalCycles = 5)) ∨
      (d.spec.mode = .indirectY ∧ (d.totalCycles = 5 ∨ d.totalCycles = 6))) ∧
    (d.spec.cls = .branch → d.totalCycles = 2 ∨ d.totalCycles = 3 ∨ d.totalCycles = 4) ∧
    (d.totalCycles = 7 ↔
      d.opcode ∈ [0x00#8, 0x1E#8, 0x3E#8, 0x5E#8, 0x7E#8, 0xDE#8, 0xFE#8])

/-- R39, R50 (and the totals of R153). That a step records them in `busReads` is the model's choice (log 3). -/
def Obligations.ReadsPerEvaluation : Prop :=
  ∀ s : State,
    (blockReads s.pc s.x s.mem).head? = some s.pc ∧
    1 ≤ (blockReads s.pc s.x s.mem).length ∧
    (blockReads s.pc s.x s.mem).length ≤ Config.maxReads ∧
    (s.mem.read s.pc ∈ undefinedOpcodes → blockReads s.pc s.x s.mem = [s.pc]) ∧
    (∀ t d, step s = .next t → t.out = some d →
      t.busReads = blockReads s.pc s.x s.mem ∧ t.busReads.length = readsOfMode d.spec.mode)

/-- R73. -/
def Obligations.MnemonicIsDescriptive : Prop :=
  ∀ (op op' : Byte) (spec spec' : InstructionSpec) (o : Operand) (s : State),
    lookup op = .ok spec → lookup op' = .ok spec' → spec'.mode = spec.mode →
    spec'.size = spec.size → spec'.baseCycles = spec.baseCycles → spec'.cls = spec.cls →
    ∃ t d, evaluate op o s = .next t ∧ t.out = some d ∧
      evaluate op' o s = .next
        { t with out := some { d with opcode := op', spec := { spec with mnemonic := spec'.mnemonic } } }

/-- R21, R168: the signal view of the outputs. -/
def Obligations.SignalsCarryTheOutputs : Prop :=
  ∀ s : State,
    (∀ t d, step s = .next t → t.out = some d → ∃ g, s.signals = some g ∧
      g.err = false ∧ g.opc = d.opcode ∧
      g.mnem.map (·.toNat) = some (mnemonicCode d.spec.mnemonic) ∧
      g.mode.map (·.toNat) = some (modeCode d.spec.mode) ∧
      g.size.map (·.toNat) = some d.spec.size ∧
      g.base.map (·.toNat) = some d.spec.baseCycles ∧
      g.eaValid = some d.address.isSome ∧ g.ea = d.address ∧
      g.px = some d.pageCrossed ∧ g.total.map (·.toNat) = some d.totalCycles) ∧
    (∀ op, step s = .fault (.unknownOpcode op) → s.signals = some
      { err := true, opc := op, mnem := none, mode := none, size := none, base := none
        eaValid := none, ea := none, px := none, total := none })

/-- R23, R52, R66: the size the block outputs is the length of the instruction. -/
def Obligations.NextSequentialPcFollowsTheInstruction : Prop :=
  ∀ (s : State) (i : Instr), s.fetched = some i →
    ∃ t d, step s = .next t ∧ t.out = some d ∧ d.spec.size = (encode i).length ∧
      nextSequentialPc s.pc d = BitVec.ofNat 16 (s.pc.toNat + (encode i).length)
end

