-- ==== Sys2Proof/Laws/State.lean ====
section
/-!
SUPPORT. The fields of a state after each update of it, one lemma a field, so that no later proof unfolds
a record update.
-/
namespace Sys2Proof.Machine

section Latch
variable (s : State) (d : DecodedInstruction) (r : List Addr)
@[simp] theorem State.latch_pc : (s.latch d r).pc = s.pc := rfl
@[simp] theorem State.latch_x : (s.latch d r).x = s.x := rfl
@[simp] theorem State.latch_y : (s.latch d r).y = s.y := rfl
@[simp] theorem State.latch_bt : (s.latch d r).bt = s.bt := rfl
@[simp] theorem State.latch_mem : (s.latch d r).mem = s.mem := rfl
@[simp] theorem State.latch_out : (s.latch d r).out = some d := rfl
@[simp] theorem State.latch_busReads : (s.latch d r).busReads = r := rfl
@[simp] theorem State.latch_latch (d' : DecodedInstruction) (r' : List Addr) :
    (s.latch d r).latch d' r' = s.latch d' r' := rfl
end Latch

section Present
variable (s : State) (pc : Addr) (x y : Byte) (bt : Bool)
@[simp] theorem State.present_pc : (s.present pc x y bt).pc = pc := rfl
@[simp] theorem State.present_x : (s.present pc x y bt).x = x := rfl
@[simp] theorem State.present_y : (s.present pc x y bt).y = y := rfl
@[simp] theorem State.present_bt : (s.present pc x y bt).bt = bt := rfl
@[simp] theorem State.present_mem : (s.present pc x y bt).mem = s.mem := rfl
@[simp] theorem State.present_out : (s.present pc x y bt).out = s.out := rfl
@[simp] theorem State.present_busReads : (s.present pc x y bt).busReads = s.busReads := rfl
end Present

section CallerStore
variable (s : State) (a : Addr) (v : Byte)
@[simp] theorem State.callerStore_pc : (s.callerStore a v).pc = s.pc := rfl
@[simp] theorem State.callerStore_x : (s.callerStore a v).x = s.x := rfl
@[simp] theorem State.callerStore_y : (s.callerStore a v).y = s.y := rfl
@[simp] theorem State.callerStore_bt : (s.callerStore a v).bt = s.bt := rfl
@[simp] theorem State.callerStore_mem : (s.callerStore a v).mem = s.mem.write a v := rfl
@[simp] theorem State.callerStore_out : (s.callerStore a v).out = s.out := rfl
@[simp] theorem State.callerStore_busReads : (s.callerStore a v).busReads = s.busReads := rfl
end CallerStore

section WithFetchWord
variable (s : State) (nbits w : Nat)
@[simp] theorem State.withFetchWord_pc : (s.withFetchWord nbits w).pc = s.pc := rfl
@[simp] theorem State.withFetchWord_x : (s.withFetchWord nbits w).x = s.x := rfl
@[simp] theorem State.withFetchWord_y : (s.withFetchWord nbits w).y = s.y := rfl
@[simp] theorem State.withFetchWord_bt : (s.withFetchWord nbits w).bt = s.bt := rfl
@[simp] theorem State.withFetchWord_out : (s.withFetchWord nbits w).out = s.out := rfl
@[simp] theorem State.withFetchWord_busReads :
    (s.withFetchWord nbits w).busReads = s.busReads := rfl
@[simp] theorem State.withFetchWord_mem : (s.withFetchWord nbits w).mem =
    ((s.mem.write s.pc (tableByte nbits w 0)).write (s.pc + 1#16) (tableByte nbits w 1)).write
      (s.pc + 2#16) (tableByte nbits w 2) := rfl
end WithFetchWord

section Reset
@[simp] theorem State.reset_pc : State.reset.pc = Config.resetPc := rfl
@[simp] theorem State.reset_x : State.reset.x = Config.resetIndex := rfl
@[simp] theorem State.reset_y : State.reset.y = Config.resetIndex := rfl
@[simp] theorem State.reset_bt : State.reset.bt = Config.resetBranchTaken := rfl
@[simp] theorem State.reset_mem : State.reset.mem = [] := rfl
@[simp] theorem State.reset_out : State.reset.out = none := rfl
@[simp] theorem State.reset_busReads : State.reset.busReads = [] := rfl
end Reset

end Sys2Proof.Machine
end

