-- ==== Sys2Proof/Laws/Memory.lean ====
section
/-!
SUPPORT. Memory: a read after a write, a read beside it, and that every memory operation keeps the
canonical form.
-/
namespace Sys2Proof.Machine

@[simp] theorem Memory.find_nil (a : Nat) : Memory.find [] a = Config.unlistedByte := rfl

theorem Memory.find_cons (k : Nat) (v : Byte) (m : Memory) (a : Nat) :
    Memory.find ((k, v) :: m) a = if k = a then v else Memory.find m a := rfl

/-- Below the first listed address nothing is listed. -/
theorem Memory.find_below {m : Memory} {lo a : Nat} (h : Memory.wfFrom lo m = true) (ha : a < lo) :
    Memory.find m a = Config.unlistedByte := by
  induction m generalizing lo with
  | nil => rfl
  | cons c m ih =>
    obtain ⟨k, v⟩ := c
    simp only [Memory.wfFrom, Bool.and_eq_true, decide_eq_true_eq] at h
    have hka : k ≠ a := by omega
    rw [Memory.find_cons, if_neg hka]
    exact ih h.2 (by omega)

/-- A smaller lower bound holds too. -/
theorem Memory.wfFrom_mono {m : Memory} {lo lo' : Nat} (h : Memory.wfFrom lo m = true)
    (hlo : lo' ≤ lo) : Memory.wfFrom lo' m = true := by
  cases m with
  | nil => rfl
  | cons c m =>
    obtain ⟨k, v⟩ := c
    simp only [Memory.wfFrom, Bool.and_eq_true, decide_eq_true_eq] at h ⊢
    exact ⟨⟨⟨by omega, h.1.1.2⟩, h.1.2⟩, h.2⟩

theorem Memory.find_cell_append (m : Memory) (a : Nat) (v : Byte) (b : Nat)
    (hm : Memory.find m a = Config.unlistedByte) :
    Memory.find (Memory.cell a v ++ m) b = if a = b then v else Memory.find m b := by
  unfold Memory.cell
  split
  · rename_i hv
    by_cases hab : a = b
    · subst hab; simp [hm, hv]
    · simp [hab]
  · simp [Memory.find_cons]

/-- What a put changes: the one address, nothing else. -/
theorem Memory.find_put {m : Memory} {lo a : Nat} (h : Memory.wfFrom lo m = true) (v : Byte)
    (b : Nat) : Memory.find (Memory.put m a v) b = if a = b then v else Memory.find m b := by
  induction m generalizing lo with
  | nil =>
    have := Memory.find_cell_append [] a v b rfl
    simpa [Memory.put] using this
  | cons c m ih =>
    obtain ⟨k, w⟩ := c
    have h' := h
    simp only [Memory.wfFrom, Bool.and_eq_true, decide_eq_true_eq] at h'
    unfold Memory.put
    split
    · rename_i hak
      refine Memory.find_cell_append _ _ _ _ ?_
      rw [Memory.find_cons, if_neg (by omega)]
      exact Memory.find_below h'.2 (by omega)
    · split
      · rename_i hak
        subst hak
        rw [Memory.find_cell_append _ _ _ _ (Memory.find_below h'.2 (by omega)), Memory.find_cons]
        split <;> rfl
      · rename_i hne
        rw [Memory.find_cons, ih h'.2, Memory.find_cons]
        by_cases hkb : k = b
        · simp [hkb, show a ≠ b by omega]
        · simp [hkb]

theorem Memory.wfFrom_cell_append {m : Memory} {lo a : Nat} (v : Byte) (hlo : lo ≤ a)
    (ha : a < Config.addressSpace) (h : Memory.wfFrom (a + 1) m = true) :
    Memory.wfFrom lo (Memory.cell a v ++ m) = true := by
  unfold Memory.cell
  split
  · exact Memory.wfFrom_mono h (by omega)
  · rename_i hv
    simp [Memory.wfFrom, h, hlo, ha, hv]

/-- A put keeps the canonical form. -/
theorem Memory.put_wfFrom {m : Memory} {lo a : Nat} (h : Memory.wfFrom lo m = true) (v : Byte)
    (hlo : lo ≤ a) (ha : a < Config.addressSpace) :
    Memory.wfFrom lo (Memory.put m a v) = true := by
  induction m generalizing lo with
  | nil =>
    have := Memory.wfFrom_cell_append (m := []) v hlo ha rfl
    simpa [Memory.put] using this
  | cons c m ih =>
    obtain ⟨k, w⟩ := c
    have h' := h
    simp only [Memory.wfFrom, Bool.and_eq_true, decide_eq_true_eq] at h'
    unfold Memory.put
    split
    · rename_i hak
      refine Memory.wfFrom_cell_append v hlo ha ?_
      simp [Memory.wfFrom, h'.1.1.2, h'.1.2, h'.2, show a + 1 ≤ k by omega]
    · split
      · rename_i hak
        subst hak
        exact Memory.wfFrom_cell_append v hlo ha h'.2
      · rename_i hne
        simp only [Memory.wfFrom, Bool.and_eq_true, decide_eq_true_eq]
        exact ⟨h'.1, ih h'.2 (by omega)⟩

theorem Addr.toNat_lt_addressSpace (a : Addr) : a.toNat < Config.addressSpace := a.isLt

/-- The caller's store keeps the canonical form of memory. -/
theorem Memory.write_wf {m : Memory} (h : m.wf = true) (a : Addr) (v : Byte) :
    (m.write a v).wf = true :=
  Memory.put_wfFrom h v (Nat.zero_le _) (Addr.toNat_lt_addressSpace a)

/-- Reset memory is in canonical form. -/
theorem State.reset_mem_wf : State.reset.mem.wf = true := rfl

/-- A read after a store: the stored byte at its address, and every other address as before. -/
theorem Memory.read_write {m : Memory} (h : m.wf = true) (a b : Addr) (v : Byte) :
    (m.write a v).read b = if a = b then v else m.read b := by
  unfold Memory.write Memory.read
  rw [Memory.find_put h]
  simp [BitVec.toNat_inj]

theorem Memory.read_write_same {m : Memory} (h : m.wf = true) (a : Addr) (v : Byte) :
    (m.write a v).read a = v := by
  simp [Memory.read_write h]

theorem Memory.read_write_other {m : Memory} (h : m.wf = true) {a b : Addr} (hab : a ≠ b) (v : Byte) :
    (m.write a v).read b = m.read b := by
  simp [Memory.read_write h, hab]

/-- Placing a fetch word keeps the canonical form. -/
theorem State.withFetchWord_mem_wf {s : State} (h : s.mem.wf = true) (nbits w : Nat) :
    (s.withFetchWord nbits w).mem.wf = true :=
  Memory.write_wf (Memory.write_wf (Memory.write_wf h _ _) _ _) _ _

end Sys2Proof.Machine
end

