-- ==== Sys2Proof/Laws/Words.lean ====
section
/-!
SUPPORT. The bytes of a word and the word of two bytes (R8, R10), the page crossing (R12), and the
branch offset as a byte (R56).
-/
namespace Sys2Proof

theorem word16_toNat (l h : Byte) : (word16 l h).toNat = 256 * h.toNat + l.toNat := by
  have hl := l.isLt
  have hh := h.isLt
  have hor := Nat.shiftLeft_add_eq_or_of_lt hl h.toNat
  have e : (word16 l h).toNat = l.toNat ||| h.toNat <<< 8 := by
    simp only [word16, BitVec.toNat_or, BitVec.toNat_shiftLeft, BitVec.toNat_setWidth]
    rw [Nat.mod_eq_of_lt (by omega : l.toNat < 2 ^ 16), Nat.mod_eq_of_lt (by omega : h.toNat < 2 ^ 16),
      Nat.mod_eq_of_lt (by rw [Nat.shiftLeft_eq]; omega)]
  rw [e, Nat.or_comm, ← hor, Nat.shiftLeft_eq]
  omega

theorem lo8_toNat (w : Addr) : (lo8 w).toNat = w.toNat % 256 := by
  simp [lo8]

theorem hi8_toNat (w : Addr) : (hi8 w).toNat = w.toNat / 256 := by
  have := w.isLt
  simp [hi8, Nat.shiftRight_eq_div_pow]
  omega

@[simp] theorem lo8_word16 (l h : Byte) : lo8 (word16 l h) = l := by
  apply BitVec.eq_of_toNat_eq
  have := l.isLt
  rw [lo8_toNat, word16_toNat]
  omega

@[simp] theorem hi8_word16 (l h : Byte) : hi8 (word16 l h) = h := by
  apply BitVec.eq_of_toNat_eq
  have := l.isLt
  rw [hi8_toNat, word16_toNat]
  omega

@[simp] theorem word16_lo8_hi8 (w : Addr) : word16 (lo8 w) (hi8 w) = w := by
  apply BitVec.eq_of_toNat_eq
  rw [word16_toNat, lo8_toNat, hi8_toNat]
  omega

/-- A well-formed branch offset comes back from its byte. -/
theorem ofInt_toInt_of_fits {o : Int} (h : offsetFits o = true) : (BitVec.ofInt 8 o).toInt = o := by
  simp only [offsetFits, Bool.and_eq_true, decide_eq_true_eq] at h
  have hc : ((2 ^ 8 : Nat) : Int) = 256 := rfl
  rw [BitVec.toInt_ofInt, Int.bmod, hc]
  split <;> omega

/-- Every byte is a branch offset that fits. -/
theorem offsetFits_toInt (b : Byte) : offsetFits b.toInt = true := by
  have h1 := BitVec.toInt_lt (x := b)
  have h2 := BitVec.le_toInt b
  simp only [offsetFits, Bool.and_eq_true, decide_eq_true_eq]
  omega

end Sys2Proof

namespace Sys2Proof.Machine

/-- Two addresses lie in different pages when their page numbers differ (R12, R42). -/
theorem crosses_eq (a b : Addr) : crosses a b = decide (a.toNat / 256 ≠ b.toNat / 256) := by
  unfold crosses
  rw [← hi8_toNat, ← hi8_toNat]
  by_cases h : hi8 a = hi8 b
  · simp [h]
  · simp [h, BitVec.toNat_inj]

end Sys2Proof.Machine
end

