-- ==== Sys2Proof/Laws/Decode.lean ====
section
/-!
SUPPORT. What the decoder answers: the instruction of the opcode byte it was given (R52), well formed,
its operand the bytes that follow; and none exactly at the undefined opcode values (R64).
-/
namespace Sys2Proof

/-- Everything the decoder can answer: an instruction of the opcode byte it was given, well formed, its
operand bytes the first none, one or two of the bytes it was given. -/
theorem decodeInstr_cases {op b1 b2 : Byte} {i : Instr} (h : decodeInstr op b1 b2 = some i) :
    i.opcode.toNat = op.toNat ∧ i.wellFormed = true ∧
    (i.operand = .none ∨
      (i.operand.bytes = [b1] ∧ i.operand.first = b1) ∨
      (i.operand.bytes = [b1, b2] ∧ i.operand.first = b1 ∧ i.operand.second = b2)) := by
  unfold decodeInstr at h
  split at h
  all_goals first
    | cases h
    | simp only [decodeRow0, decodeRow1, decodeRow2, decodeRow3, decodeRow4, decodeRow5, decodeRow6,
        decodeRow7, decodeRow8, decodeRow9, decodeRowA, decodeRowB, decodeRowC, decodeRowD,
        decodeRowE, decodeRowF] at h
      split at h <;> cases h <;>
        simp [Instr.opcode, Instr.operand, Instr.wellFormed, Operand.fits, Operand.bytes,
          Operand.first, Operand.second, offsetFits_toInt] <;>
        omega

/-- The instruction the decoder answers has the opcode byte it was given. -/
theorem decodeInstr_opcode {op b1 b2 : Byte} {i : Instr} (h : decodeInstr op b1 b2 = some i) :
    i.opcode = op :=
  BitVec.eq_of_toNat_eq (decodeInstr_cases h).1

/-- Whether the decoder answers at all depends on the opcode byte alone (R52, R61). -/
theorem decodeInstr_isNone (op b1 b2 : Byte) :
    (decodeInstr op b1 b2).isNone = (decodeInstr op 0#8 0#8).isNone := by
  unfold decodeInstr
  split
  all_goals first
    | rfl
    | simp only [decodeRow0, decodeRow1, decodeRow2, decodeRow3, decodeRow4, decodeRow5, decodeRow6,
        decodeRow7, decodeRow8, decodeRow9, decodeRowA, decodeRowB, decodeRowC, decodeRowD,
        decodeRowE, decodeRowF]
      split <;> rfl

/-- The decoder answers none exactly at the 105 undefined opcode values (R64, R65). -/
theorem decodeInstr_eq_none_iff (op b1 b2 : Byte) :
    decodeInstr op b1 b2 = none ↔ op ∈ Machine.undefinedOpcodes := by
  have key : ∀ op : Byte,
      (decodeInstr op 0#8 0#8).isNone = decide (op ∈ Machine.undefinedOpcodes) := by decide
  have h := key op
  rw [← decodeInstr_isNone op b1 b2] at h
  cases hd : decodeInstr op b1 b2 <;> simp_all

/-- An instruction's operand bytes are none, its first, or its first and second. -/
theorem Operand.bytes_cases (o : Operand) :
    o = .none ∨ o.bytes = [o.first] ∨ o.bytes = [o.first, o.second] := by
  cases o <;> simp [Operand.bytes, Operand.first, Operand.second]

end Sys2Proof
end

