-- ==== Sys2Proof/Laws/Evaluate.lean ====
section
/-!
SUPPORT. What the shared operations can do, said once: `raise`, `evaluate`, and what `exec` is for every
instruction.
-/
namespace Sys2Proof.Machine

/-- An error never answers a next state. -/
theorem raise_ne_next (e : LookupError) (t : State) : raise e ≠ .next t := by
  cases e <;> simp [raise, raiseUnknownOpcode]

/-- The evaluation of an opcode whose lookup answers a spec. -/
theorem evaluate_of_lookup {op : Byte} {spec : InstructionSpec} (h : lookup op = .ok spec)
    (o : Operand) (s : State) :
    evaluate op o s = .next (s.latch
      (decodedRecord op spec (resolveWith spec.mode o.first o.second s.pc s.x s.y s.mem) s.bt)
      (s.pc :: resolverReads spec.mode o.first o.second s.pc s.x)) := by
  unfold evaluate
  rw [h]

/-- The evaluation of an opcode whose lookup answers an error. -/
theorem evaluate_of_error {op : Byte} {e : LookupError} (h : lookup op = .error e)
    (o : Operand) (s : State) : evaluate op o s = raise e := by
  unfold evaluate
  rw [h]

/-- Everything an evaluation that completes has done. -/
theorem evaluate_next_cases {op : Byte} {o : Operand} {s t : State} (h : evaluate op o s = .next t) :
    ∃ spec, lookup op = .ok spec ∧
      t = s.latch
        (decodedRecord op spec (resolveWith spec.mode o.first o.second s.pc s.x s.y s.mem) s.bt)
        (s.pc :: resolverReads spec.mode o.first o.second s.pc s.x) := by
  cases hl : lookup op with
  | error e => exact absurd (evaluate_of_error hl o s ▸ h) (raise_ne_next e t)
  | ok spec =>
    rw [evaluate_of_lookup hl] at h
    cases h
    exact ⟨spec, rfl, rfl⟩

/-- Every meaning is the shared evaluation at the instruction's own opcode and operand (R80). -/
theorem exec_eq_evaluate (i : Instr) (s : State) : exec i s = evaluate i.opcode i.operand s := by
  cases i <;> rfl

/-- Everything an instruction that completes has done. -/
theorem exec_next_cases {i : Instr} {s t : State} (h : exec i s = .next t) :
    ∃ spec, lookup i.opcode = .ok spec ∧
      t = s.latch
        (decodedRecord i.opcode spec
          (resolveWith spec.mode i.operand.first i.operand.second s.pc s.x s.y s.mem) s.bt)
        (s.pc :: resolverReads spec.mode i.operand.first i.operand.second s.pc s.x) :=
  evaluate_next_cases (exec_eq_evaluate i s ▸ h)

end Sys2Proof.Machine
end

