-- ==== Sys2Proof/Laws/PerInstr.lean ====
section
/-!
SUPPORT. A fact of every instruction as syntax: the ROM defines its opcode, with a mode and a size that
agree with the bytes it encodes to (R52, R77 a), one lemma for each constructor of Instr.
-/
namespace Sys2Proof.Laws.RomSize

/-- The ROM defines the instruction's opcode, and the ROM's size is the length of its encoding and one
more than the operand bytes of the ROM's mode. -/
def Statement (i : Instr) : Prop :=
  ∃ spec, Machine.lookup i.opcode = .ok spec ∧ spec.size = (encode i).length ∧
    spec.size = 1 + Machine.extraBytes spec.mode

theorem ldaIndX (zp : Byte) : Statement (.ldaIndX zp) :=
  ⟨⟨.LDA, .indirectX, 2, 6, .none⟩, by change Machine.lookup 0xA1#8 = _; decide, rfl, rfl⟩
theorem ldaZp (zp : Byte) : Statement (.ldaZp zp) :=
  ⟨⟨.LDA, .zeropage, 2, 3, .none⟩, by change Machine.lookup 0xA5#8 = _; decide, rfl, rfl⟩
theorem ldaImm (imm : Byte) : Statement (.ldaImm imm) :=
  ⟨⟨.LDA, .immediate, 2, 2, .none⟩, by change Machine.lookup 0xA9#8 = _; decide, rfl, rfl⟩
theorem ldaAbs (addr : Addr) : Statement (.ldaAbs addr) :=
  ⟨⟨.LDA, .absolute, 3, 4, .none⟩, by change Machine.lookup 0xAD#8 = _; decide, rfl, rfl⟩
theorem ldaIndY (zp : Byte) : Statement (.ldaIndY zp) :=
  ⟨⟨.LDA, .indirectY, 2, 5, .pageCross⟩, by change Machine.lookup 0xB1#8 = _; decide, rfl, rfl⟩
theorem ldaZpX (zp : Byte) : Statement (.ldaZpX zp) :=
  ⟨⟨.LDA, .zeropageX, 2, 4, .none⟩, by change Machine.lookup 0xB5#8 = _; decide, rfl, rfl⟩
theorem ldaAbsY (addr : Addr) : Statement (.ldaAbsY addr) :=
  ⟨⟨.LDA, .absoluteY, 3, 4, .pageCross⟩, by change Machine.lookup 0xB9#8 = _; decide, rfl, rfl⟩
theorem ldaAbsX (addr : Addr) : Statement (.ldaAbsX addr) :=
  ⟨⟨.LDA, .absoluteX, 3, 4, .pageCross⟩, by change Machine.lookup 0xBD#8 = _; decide, rfl, rfl⟩
theorem ldxImm (imm : Byte) : Statement (.ldxImm imm) :=
  ⟨⟨.LDX, .immediate, 2, 2, .none⟩, by change Machine.lookup 0xA2#8 = _; decide, rfl, rfl⟩
theorem ldxZp (zp : Byte) : Statement (.ldxZp zp) :=
  ⟨⟨.LDX, .zeropage, 2, 3, .none⟩, by change Machine.lookup 0xA6#8 = _; decide, rfl, rfl⟩
theorem ldxAbs (addr : Addr) : Statement (.ldxAbs addr) :=
  ⟨⟨.LDX, .absolute, 3, 4, .none⟩, by change Machine.lookup 0xAE#8 = _; decide, rfl, rfl⟩
theorem ldxZpY (zp : Byte) : Statement (.ldxZpY zp) :=
  ⟨⟨.LDX, .zeropageY, 2, 4, .none⟩, by change Machine.lookup 0xB6#8 = _; decide, rfl, rfl⟩
theorem ldxAbsY (addr : Addr) : Statement (.ldxAbsY addr) :=
  ⟨⟨.LDX, .absoluteY, 3, 4, .pageCross⟩, by change Machine.lookup 0xBE#8 = _; decide, rfl, rfl⟩
theorem ldyImm (imm : Byte) : Statement (.ldyImm imm) :=
  ⟨⟨.LDY, .immediate, 2, 2, .none⟩, by change Machine.lookup 0xA0#8 = _; decide, rfl, rfl⟩
theorem ldyZp (zp : Byte) : Statement (.ldyZp zp) :=
  ⟨⟨.LDY, .zeropage, 2, 3, .none⟩, by change Machine.lookup 0xA4#8 = _; decide, rfl, rfl⟩
theorem ldyAbs (addr : Addr) : Statement (.ldyAbs addr) :=
  ⟨⟨.LDY, .absolute, 3, 4, .none⟩, by change Machine.lookup 0xAC#8 = _; decide, rfl, rfl⟩
theorem ldyZpX (zp : Byte) : Statement (.ldyZpX zp) :=
  ⟨⟨.LDY, .zeropageX, 2, 4, .none⟩, by change Machine.lookup 0xB4#8 = _; decide, rfl, rfl⟩
theorem ldyAbsX (addr : Addr) : Statement (.ldyAbsX addr) :=
  ⟨⟨.LDY, .absoluteX, 3, 4, .pageCross⟩, by change Machine.lookup 0xBC#8 = _; decide, rfl, rfl⟩
theorem staIndX (zp : Byte) : Statement (.staIndX zp) :=
  ⟨⟨.STA, .indirectX, 2, 6, .none⟩, by change Machine.lookup 0x81#8 = _; decide, rfl, rfl⟩
theorem staZp (zp : Byte) : Statement (.staZp zp) :=
  ⟨⟨.STA, .zeropage, 2, 3, .none⟩, by change Machine.lookup 0x85#8 = _; decide, rfl, rfl⟩
theorem staAbs (addr : Addr) : Statement (.staAbs addr) :=
  ⟨⟨.STA, .absolute, 3, 4, .none⟩, by change Machine.lookup 0x8D#8 = _; decide, rfl, rfl⟩
theorem staIndY (zp : Byte) : Statement (.staIndY zp) :=
  ⟨⟨.STA, .indirectY, 2, 6, .none⟩, by change Machine.lookup 0x91#8 = _; decide, rfl, rfl⟩
theorem staZpX (zp : Byte) : Statement (.staZpX zp) :=
  ⟨⟨.STA, .zeropageX, 2, 4, .none⟩, by change Machine.lookup 0x95#8 = _; decide, rfl, rfl⟩
theorem staAbsY (addr : Addr) : Statement (.staAbsY addr) :=
  ⟨⟨.STA, .absoluteY, 3, 5, .none⟩, by change Machine.lookup 0x99#8 = _; decide, rfl, rfl⟩
theorem staAbsX (addr : Addr) : Statement (.staAbsX addr) :=
  ⟨⟨.STA, .absoluteX, 3, 5, .none⟩, by change Machine.lookup 0x9D#8 = _; decide, rfl, rfl⟩
theorem stxZp (zp : Byte) : Statement (.stxZp zp) :=
  ⟨⟨.STX, .zeropage, 2, 3, .none⟩, by change Machine.lookup 0x86#8 = _; decide, rfl, rfl⟩
theorem stxAbs (addr : Addr) : Statement (.stxAbs addr) :=
  ⟨⟨.STX, .absolute, 3, 4, .none⟩, by change Machine.lookup 0x8E#8 = _; decide, rfl, rfl⟩
theorem stxZpY (zp : Byte) : Statement (.stxZpY zp) :=
  ⟨⟨.STX, .zeropageY, 2, 4, .none⟩, by change Machine.lookup 0x96#8 = _; decide, rfl, rfl⟩
theorem styZp (zp : Byte) : Statement (.styZp zp) :=
  ⟨⟨.STY, .zeropage, 2, 3, .none⟩, by change Machine.lookup 0x84#8 = _; decide, rfl, rfl⟩
theorem styAbs (addr : Addr) : Statement (.styAbs addr) :=
  ⟨⟨.STY, .absolute, 3, 4, .none⟩, by change Machine.lookup 0x8C#8 = _; decide, rfl, rfl⟩
theorem styZpX (zp : Byte) : Statement (.styZpX zp) :=
  ⟨⟨.STY, .zeropageX, 2, 4, .none⟩, by change Machine.lookup 0x94#8 = _; decide, rfl, rfl⟩
theorem tax : Statement .tax :=
  ⟨⟨.TAX, .implied, 1, 2, .none⟩, by change Machine.lookup 0xAA#8 = _; decide, rfl, rfl⟩
theorem tay : Statement .tay :=
  ⟨⟨.TAY, .implied, 1, 2, .none⟩, by change Machine.lookup 0xA8#8 = _; decide, rfl, rfl⟩
theorem tsx : Statement .tsx :=
  ⟨⟨.TSX, .implied, 1, 2, .none⟩, by change Machine.lookup 0xBA#8 = _; decide, rfl, rfl⟩
theorem txa : Statement .txa :=
  ⟨⟨.TXA, .implied, 1, 2, .none⟩, by change Machine.lookup 0x8A#8 = _; decide, rfl, rfl⟩
theorem txs : Statement .txs :=
  ⟨⟨.TXS, .implied, 1, 2, .none⟩, by change Machine.lookup 0x9A#8 = _; decide, rfl, rfl⟩
theorem tya : Statement .tya :=
  ⟨⟨.TYA, .implied, 1, 2, .none⟩, by change Machine.lookup 0x98#8 = _; decide, rfl, rfl⟩
theorem pha : Statement .pha :=
  ⟨⟨.PHA, .implied, 1, 3, .none⟩, by change Machine.lookup 0x48#8 = _; decide, rfl, rfl⟩
theorem php : Statement .php :=
  ⟨⟨.PHP, .implied, 1, 3, .none⟩, by change Machine.lookup 0x08#8 = _; decide, rfl, rfl⟩
theorem pla : Statement .pla :=
  ⟨⟨.PLA, .implied, 1, 4, .none⟩, by change Machine.lookup 0x68#8 = _; decide, rfl, rfl⟩
theorem plp : Statement .plp :=
  ⟨⟨.PLP, .implied, 1, 4, .none⟩, by change Machine.lookup 0x28#8 = _; decide, rfl, rfl⟩
theorem adcIndX (zp : Byte) : Statement (.adcIndX zp) :=
  ⟨⟨.ADC, .indirectX, 2, 6, .none⟩, by change Machine.lookup 0x61#8 = _; decide, rfl, rfl⟩
theorem adcZp (zp : Byte) : Statement (.adcZp zp) :=
  ⟨⟨.ADC, .zeropage, 2, 3, .none⟩, by change Machine.lookup 0x65#8 = _; decide, rfl, rfl⟩
theorem adcImm (imm : Byte) : Statement (.adcImm imm) :=
  ⟨⟨.ADC, .immediate, 2, 2, .none⟩, by change Machine.lookup 0x69#8 = _; decide, rfl, rfl⟩
theorem adcAbs (addr : Addr) : Statement (.adcAbs addr) :=
  ⟨⟨.ADC, .absolute, 3, 4, .none⟩, by change Machine.lookup 0x6D#8 = _; decide, rfl, rfl⟩
theorem adcIndY (zp : Byte) : Statement (.adcIndY zp) :=
  ⟨⟨.ADC, .indirectY, 2, 5, .pageCross⟩, by change Machine.lookup 0x71#8 = _; decide, rfl, rfl⟩
theorem adcZpX (zp : Byte) : Statement (.adcZpX zp) :=
  ⟨⟨.ADC, .zeropageX, 2, 4, .none⟩, by change Machine.lookup 0x75#8 = _; decide, rfl, rfl⟩
theorem adcAbsY (addr : Addr) : Statement (.adcAbsY addr) :=
  ⟨⟨.ADC, .absoluteY, 3, 4, .pageCross⟩, by change Machine.lookup 0x79#8 = _; decide, rfl, rfl⟩
theorem adcAbsX (addr : Addr) : Statement (.adcAbsX addr) :=
  ⟨⟨.ADC, .absoluteX, 3, 4, .pageCross⟩, by change Machine.lookup 0x7D#8 = _; decide, rfl, rfl⟩
theorem sbcIndX (zp : Byte) : Statement (.sbcIndX zp) :=
  ⟨⟨.SBC, .indirectX, 2, 6, .none⟩, by change Machine.lookup 0xE1#8 = _; decide, rfl, rfl⟩
theorem sbcZp (zp : Byte) : Statement (.sbcZp zp) :=
  ⟨⟨.SBC, .zeropage, 2, 3, .none⟩, by change Machine.lookup 0xE5#8 = _; decide, rfl, rfl⟩
theorem sbcImm (imm : Byte) : Statement (.sbcImm imm) :=
  ⟨⟨.SBC, .immediate, 2, 2, .none⟩, by change Machine.lookup 0xE9#8 = _; decide, rfl, rfl⟩
theorem sbcAbs (addr : Addr) : Statement (.sbcAbs addr) :=
  ⟨⟨.SBC, .absolute, 3, 4, .none⟩, by change Machine.lookup 0xED#8 = _; decide, rfl, rfl⟩
theorem sbcIndY (zp : Byte) : Statement (.sbcIndY zp) :=
  ⟨⟨.SBC, .indirectY, 2, 5, .pageCross⟩, by change Machine.lookup 0xF1#8 = _; decide, rfl, rfl⟩
theorem sbcZpX (zp : Byte) : Statement (.sbcZpX zp) :=
  ⟨⟨.SBC, .zeropageX, 2, 4, .none⟩, by change Machine.lookup 0xF5#8 = _; decide, rfl, rfl⟩
theorem sbcAbsY (addr : Addr) : Statement (.sbcAbsY addr) :=
  ⟨⟨.SBC, .absoluteY, 3, 4, .pageCross⟩, by change Machine.lookup 0xF9#8 = _; decide, rfl, rfl⟩
theorem sbcAbsX (addr : Addr) : Statement (.sbcAbsX addr) :=
  ⟨⟨.SBC, .absoluteX, 3, 4, .pageCross⟩, by change Machine.lookup 0xFD#8 = _; decide, rfl, rfl⟩
theorem andIndX (zp : Byte) : Statement (.andIndX zp) :=
  ⟨⟨.AND, .indirectX, 2, 6, .none⟩, by change Machine.lookup 0x21#8 = _; decide, rfl, rfl⟩
theorem andZp (zp : Byte) : Statement (.andZp zp) :=
  ⟨⟨.AND, .zeropage, 2, 3, .none⟩, by change Machine.lookup 0x25#8 = _; decide, rfl, rfl⟩
theorem andImm (imm : Byte) : Statement (.andImm imm) :=
  ⟨⟨.AND, .immediate, 2, 2, .none⟩, by change Machine.lookup 0x29#8 = _; decide, rfl, rfl⟩
theorem andAbs (addr : Addr) : Statement (.andAbs addr) :=
  ⟨⟨.AND, .absolute, 3, 4, .none⟩, by change Machine.lookup 0x2D#8 = _; decide, rfl, rfl⟩
theorem andIndY (zp : Byte) : Statement (.andIndY zp) :=
  ⟨⟨.AND, .indirectY, 2, 5, .pageCross⟩, by change Machine.lookup 0x31#8 = _; decide, rfl, rfl⟩
theorem andZpX (zp : Byte) : Statement (.andZpX zp) :=
  ⟨⟨.AND, .zeropageX, 2, 4, .none⟩, by change Machine.lookup 0x35#8 = _; decide, rfl, rfl⟩
theorem andAbsY (addr : Addr) : Statement (.andAbsY addr) :=
  ⟨⟨.AND, .absoluteY, 3, 4, .pageCross⟩, by change Machine.lookup 0x39#8 = _; decide, rfl, rfl⟩
theorem andAbsX (addr : Addr) : Statement (.andAbsX addr) :=
  ⟨⟨.AND, .absoluteX, 3, 4, .pageCross⟩, by change Machine.lookup 0x3D#8 = _; decide, rfl, rfl⟩
theorem oraIndX (zp : Byte) : Statement (.oraIndX zp) :=
  ⟨⟨.ORA, .indirectX, 2, 6, .none⟩, by change Machine.lookup 0x01#8 = _; decide, rfl, rfl⟩
theorem oraZp (zp : Byte) : Statement (.oraZp zp) :=
  ⟨⟨.ORA, .zeropage, 2, 3, .none⟩, by change Machine.lookup 0x05#8 = _; decide, rfl, rfl⟩
theorem oraImm (imm : Byte) : Statement (.oraImm imm) :=
  ⟨⟨.ORA, .immediate, 2, 2, .none⟩, by change Machine.lookup 0x09#8 = _; decide, rfl, rfl⟩
theorem oraAbs (addr : Addr) : Statement (.oraAbs addr) :=
  ⟨⟨.ORA, .absolute, 3, 4, .none⟩, by change Machine.lookup 0x0D#8 = _; decide, rfl, rfl⟩
theorem oraIndY (zp : Byte) : Statement (.oraIndY zp) :=
  ⟨⟨.ORA, .indirectY, 2, 5, .pageCross⟩, by change Machine.lookup 0x11#8 = _; decide, rfl, rfl⟩
theorem oraZpX (zp : Byte) : Statement (.oraZpX zp) :=
  ⟨⟨.ORA, .zeropageX, 2, 4, .none⟩, by change Machine.lookup 0x15#8 = _; decide, rfl, rfl⟩
theorem oraAbsY (addr : Addr) : Statement (.oraAbsY addr) :=
  ⟨⟨.ORA, .absoluteY, 3, 4, .pageCross⟩, by change Machine.lookup 0x19#8 = _; decide, rfl, rfl⟩
theorem oraAbsX (addr : Addr) : Statement (.oraAbsX addr) :=
  ⟨⟨.ORA, .absoluteX, 3, 4, .pageCross⟩, by change Machine.lookup 0x1D#8 = _; decide, rfl, rfl⟩
theorem eorIndX (zp : Byte) : Statement (.eorIndX zp) :=
  ⟨⟨.EOR, .indirectX, 2, 6, .none⟩, by change Machine.lookup 0x41#8 = _; decide, rfl, rfl⟩
theorem eorZp (zp : Byte) : Statement (.eorZp zp) :=
  ⟨⟨.EOR, .zeropage, 2, 3, .none⟩, by change Machine.lookup 0x45#8 = _; decide, rfl, rfl⟩
theorem eorImm (imm : Byte) : Statement (.eorImm imm) :=
  ⟨⟨.EOR, .immediate, 2, 2, .none⟩, by change Machine.lookup 0x49#8 = _; decide, rfl, rfl⟩
theorem eorAbs (addr : Addr) : Statement (.eorAbs addr) :=
  ⟨⟨.EOR, .absolute, 3, 4, .none⟩, by change Machine.lookup 0x4D#8 = _; decide, rfl, rfl⟩
theorem eorIndY (zp : Byte) : Statement (.eorIndY zp) :=
  ⟨⟨.EOR, .indirectY, 2, 5, .pageCross⟩, by change Machine.lookup 0x51#8 = _; decide, rfl, rfl⟩
theorem eorZpX (zp : Byte) : Statement (.eorZpX zp) :=
  ⟨⟨.EOR, .zeropageX, 2, 4, .none⟩, by change Machine.lookup 0x55#8 = _; decide, rfl, rfl⟩
theorem eorAbsY (addr : Addr) : Statement (.eorAbsY addr) :=
  ⟨⟨.EOR, .absoluteY, 3, 4, .pageCross⟩, by change Machine.lookup 0x59#8 = _; decide, rfl, rfl⟩
theorem eorAbsX (addr : Addr) : Statement (.eorAbsX addr) :=
  ⟨⟨.EOR, .absoluteX, 3, 4, .pageCross⟩, by change Machine.lookup 0x5D#8 = _; decide, rfl, rfl⟩
theorem cmpIndX (zp : Byte) : Statement (.cmpIndX zp) :=
  ⟨⟨.CMP, .indirectX, 2, 6, .none⟩, by change Machine.lookup 0xC1#8 = _; decide, rfl, rfl⟩
theorem cmpZp (zp : Byte) : Statement (.cmpZp zp) :=
  ⟨⟨.CMP, .zeropage, 2, 3, .none⟩, by change Machine.lookup 0xC5#8 = _; decide, rfl, rfl⟩
theorem cmpImm (imm : Byte) : Statement (.cmpImm imm) :=
  ⟨⟨.CMP, .immediate, 2, 2, .none⟩, by change Machine.lookup 0xC9#8 = _; decide, rfl, rfl⟩
theorem cmpAbs (addr : Addr) : Statement (.cmpAbs addr) :=
  ⟨⟨.CMP, .absolute, 3, 4, .none⟩, by change Machine.lookup 0xCD#8 = _; decide, rfl, rfl⟩
theorem cmpIndY (zp : Byte) : Statement (.cmpIndY zp) :=
  ⟨⟨.CMP, .indirectY, 2, 5, .pageCross⟩, by change Machine.lookup 0xD1#8 = _; decide, rfl, rfl⟩
theorem cmpZpX (zp : Byte) : Statement (.cmpZpX zp) :=
  ⟨⟨.CMP, .zeropageX, 2, 4, .none⟩, by change Machine.lookup 0xD5#8 = _; decide, rfl, rfl⟩
theorem cmpAbsY (addr : Addr) : Statement (.cmpAbsY addr) :=
  ⟨⟨.CMP, .absoluteY, 3, 4, .pageCross⟩, by change Machine.lookup 0xD9#8 = _; decide, rfl, rfl⟩
theorem cmpAbsX (addr : Addr) : Statement (.cmpAbsX addr) :=
  ⟨⟨.CMP, .absoluteX, 3, 4, .pageCross⟩, by change Machine.lookup 0xDD#8 = _; decide, rfl, rfl⟩
theorem cpxImm (imm : Byte) : Statement (.cpxImm imm) :=
  ⟨⟨.CPX, .immediate, 2, 2, .none⟩, by change Machine.lookup 0xE0#8 = _; decide, rfl, rfl⟩
theorem cpxZp (zp : Byte) : Statement (.cpxZp zp) :=
  ⟨⟨.CPX, .zeropage, 2, 3, .none⟩, by change Machine.lookup 0xE4#8 = _; decide, rfl, rfl⟩
theorem cpxAbs (addr : Addr) : Statement (.cpxAbs addr) :=
  ⟨⟨.CPX, .absolute, 3, 4, .none⟩, by change Machine.lookup 0xEC#8 = _; decide, rfl, rfl⟩
theorem cpyImm (imm : Byte) : Statement (.cpyImm imm) :=
  ⟨⟨.CPY, .immediate, 2, 2, .none⟩, by change Machine.lookup 0xC0#8 = _; decide, rfl, rfl⟩
theorem cpyZp (zp : Byte) : Statement (.cpyZp zp) :=
  ⟨⟨.CPY, .zeropage, 2, 3, .none⟩, by change Machine.lookup 0xC4#8 = _; decide, rfl, rfl⟩
theorem cpyAbs (addr : Addr) : Statement (.cpyAbs addr) :=
  ⟨⟨.CPY, .absolute, 3, 4, .none⟩, by change Machine.lookup 0xCC#8 = _; decide, rfl, rfl⟩
theorem bitZp (zp : Byte) : Statement (.bitZp zp) :=
  ⟨⟨.BIT, .zeropage, 2, 3, .none⟩, by change Machine.lookup 0x24#8 = _; decide, rfl, rfl⟩
theorem bitAbs (addr : Addr) : Statement (.bitAbs addr) :=
  ⟨⟨.BIT, .absolute, 3, 4, .none⟩, by change Machine.lookup 0x2C#8 = _; decide, rfl, rfl⟩
theorem aslZp (zp : Byte) : Statement (.aslZp zp) :=
  ⟨⟨.ASL, .zeropage, 2, 5, .none⟩, by change Machine.lookup 0x06#8 = _; decide, rfl, rfl⟩
theorem aslAcc : Statement .aslAcc :=
  ⟨⟨.ASL, .accumulator, 1, 2, .none⟩, by change Machine.lookup 0x0A#8 = _; decide, rfl, rfl⟩
theorem aslAbs (addr : Addr) : Statement (.aslAbs addr) :=
  ⟨⟨.ASL, .absolute, 3, 6, .none⟩, by change Machine.lookup 0x0E#8 = _; decide, rfl, rfl⟩
theorem aslZpX (zp : Byte) : Statement (.aslZpX zp) :=
  ⟨⟨.ASL, .zeropageX, 2, 6, .none⟩, by change Machine.lookup 0x16#8 = _; decide, rfl, rfl⟩
theorem aslAbsX (addr : Addr) : Statement (.aslAbsX addr) :=
  ⟨⟨.ASL, .absoluteX, 3, 7, .none⟩, by change Machine.lookup 0x1E#8 = _; decide, rfl, rfl⟩
theorem lsrZp (zp : Byte) : Statement (.lsrZp zp) :=
  ⟨⟨.LSR, .zeropage, 2, 5, .none⟩, by change Machine.lookup 0x46#8 = _; decide, rfl, rfl⟩
theorem lsrAcc : Statement .lsrAcc :=
  ⟨⟨.LSR, .accumulator, 1, 2, .none⟩, by change Machine.lookup 0x4A#8 = _; decide, rfl, rfl⟩
theorem lsrAbs (addr : Addr) : Statement (.lsrAbs addr) :=
  ⟨⟨.LSR, .absolute, 3, 6, .none⟩, by change Machine.lookup 0x4E#8 = _; decide, rfl, rfl⟩
theorem lsrZpX (zp : Byte) : Statement (.lsrZpX zp) :=
  ⟨⟨.LSR, .zeropageX, 2, 6, .none⟩, by change Machine.lookup 0x56#8 = _; decide, rfl, rfl⟩
theorem lsrAbsX (addr : Addr) : Statement (.lsrAbsX addr) :=
  ⟨⟨.LSR, .absoluteX, 3, 7, .none⟩, by change Machine.lookup 0x5E#8 = _; decide, rfl, rfl⟩
theorem rolZp (zp : Byte) : Statement (.rolZp zp) :=
  ⟨⟨.ROL, .zeropage, 2, 5, .none⟩, by change Machine.lookup 0x26#8 = _; decide, rfl, rfl⟩
theorem rolAcc : Statement .rolAcc :=
  ⟨⟨.ROL, .accumulator, 1, 2, .none⟩, by change Machine.lookup 0x2A#8 = _; decide, rfl, rfl⟩
theorem rolAbs (addr : Addr) : Statement (.rolAbs addr) :=
  ⟨⟨.ROL, .absolute, 3, 6, .none⟩, by change Machine.lookup 0x2E#8 = _; decide, rfl, rfl⟩
theorem rolZpX (zp : Byte) : Statement (.rolZpX zp) :=
  ⟨⟨.ROL, .zeropageX, 2, 6, .none⟩, by change Machine.lookup 0x36#8 = _; decide, rfl, rfl⟩
theorem rolAbsX (addr : Addr) : Statement (.rolAbsX addr) :=
  ⟨⟨.ROL, .absoluteX, 3, 7, .none⟩, by change Machine.lookup 0x3E#8 = _; decide, rfl, rfl⟩
theorem rorZp (zp : Byte) : Statement (.rorZp zp) :=
  ⟨⟨.ROR, .zeropage, 2, 5, .none⟩, by change Machine.lookup 0x66#8 = _; decide, rfl, rfl⟩
theorem rorAcc : Statement .rorAcc :=
  ⟨⟨.ROR, .accumulator, 1, 2, .none⟩, by change Machine.lookup 0x6A#8 = _; decide, rfl, rfl⟩
theorem rorAbs (addr : Addr) : Statement (.rorAbs addr) :=
  ⟨⟨.ROR, .absolute, 3, 6, .none⟩, by change Machine.lookup 0x6E#8 = _; decide, rfl, rfl⟩
theorem rorZpX (zp : Byte) : Statement (.rorZpX zp) :=
  ⟨⟨.ROR, .zeropageX, 2, 6, .none⟩, by change Machine.lookup 0x76#8 = _; decide, rfl, rfl⟩
theorem rorAbsX (addr : Addr) : Statement (.rorAbsX addr) :=
  ⟨⟨.ROR, .absoluteX, 3, 7, .none⟩, by change Machine.lookup 0x7E#8 = _; decide, rfl, rfl⟩
theorem incZp (zp : Byte) : Statement (.incZp zp) :=
  ⟨⟨.INC, .zeropage, 2, 5, .none⟩, by change Machine.lookup 0xE6#8 = _; decide, rfl, rfl⟩
theorem incAbs (addr : Addr) : Statement (.incAbs addr) :=
  ⟨⟨.INC, .absolute, 3, 6, .none⟩, by change Machine.lookup 0xEE#8 = _; decide, rfl, rfl⟩
theorem incZpX (zp : Byte) : Statement (.incZpX zp) :=
  ⟨⟨.INC, .zeropageX, 2, 6, .none⟩, by change Machine.lookup 0xF6#8 = _; decide, rfl, rfl⟩
theorem incAbsX (addr : Addr) : Statement (.incAbsX addr) :=
  ⟨⟨.INC, .absoluteX, 3, 7, .none⟩, by change Machine.lookup 0xFE#8 = _; decide, rfl, rfl⟩
theorem decZp (zp : Byte) : Statement (.decZp zp) :=
  ⟨⟨.DEC, .zeropage, 2, 5, .none⟩, by change Machine.lookup 0xC6#8 = _; decide, rfl, rfl⟩
theorem decAbs (addr : Addr) : Statement (.decAbs addr) :=
  ⟨⟨.DEC, .absolute, 3, 6, .none⟩, by change Machine.lookup 0xCE#8 = _; decide, rfl, rfl⟩
theorem decZpX (zp : Byte) : Statement (.decZpX zp) :=
  ⟨⟨.DEC, .zeropageX, 2, 6, .none⟩, by change Machine.lookup 0xD6#8 = _; decide, rfl, rfl⟩
theorem decAbsX (addr : Addr) : Statement (.decAbsX addr) :=
  ⟨⟨.DEC, .absoluteX, 3, 7, .none⟩, by change Machine.lookup 0xDE#8 = _; decide, rfl, rfl⟩
theorem inx : Statement .inx :=
  ⟨⟨.INX, .implied, 1, 2, .none⟩, by change Machine.lookup 0xE8#8 = _; decide, rfl, rfl⟩
theorem iny : Statement .iny :=
  ⟨⟨.INY, .implied, 1, 2, .none⟩, by change Machine.lookup 0xC8#8 = _; decide, rfl, rfl⟩
theorem dex : Statement .dex :=
  ⟨⟨.DEX, .implied, 1, 2, .none⟩, by change Machine.lookup 0xCA#8 = _; decide, rfl, rfl⟩
theorem dey : Statement .dey :=
  ⟨⟨.DEY, .implied, 1, 2, .none⟩, by change Machine.lookup 0x88#8 = _; decide, rfl, rfl⟩
theorem bpl (off : Int) : Statement (.bpl off) :=
  ⟨⟨.BPL, .relative, 2, 2, .branch⟩, by change Machine.lookup 0x10#8 = _; decide, rfl, rfl⟩
theorem bmi (off : Int) : Statement (.bmi off) :=
  ⟨⟨.BMI, .relative, 2, 2, .branch⟩, by change Machine.lookup 0x30#8 = _; decide, rfl, rfl⟩
theorem bvc (off : Int) : Statement (.bvc off) :=
  ⟨⟨.BVC, .relative, 2, 2, .branch⟩, by change Machine.lookup 0x50#8 = _; decide, rfl, rfl⟩
theorem bvs (off : Int) : Statement (.bvs off) :=
  ⟨⟨.BVS, .relative, 2, 2, .branch⟩, by change Machine.lookup 0x70#8 = _; decide, rfl, rfl⟩
theorem bcc (off : Int) : Statement (.bcc off) :=
  ⟨⟨.BCC, .relative, 2, 2, .branch⟩, by change Machine.lookup 0x90#8 = _; decide, rfl, rfl⟩
theorem bcs (off : Int) : Statement (.bcs off) :=
  ⟨⟨.BCS, .relative, 2, 2, .branch⟩, by change Machine.lookup 0xB0#8 = _; decide, rfl, rfl⟩
theorem bne (off : Int) : Statement (.bne off) :=
  ⟨⟨.BNE, .relative, 2, 2, .branch⟩, by change Machine.lookup 0xD0#8 = _; decide, rfl, rfl⟩
theorem beq (off : Int) : Statement (.beq off) :=
  ⟨⟨.BEQ, .relative, 2, 2, .branch⟩, by change Machine.lookup 0xF0#8 = _; decide, rfl, rfl⟩
theorem jmpAbs (addr : Addr) : Statement (.jmpAbs addr) :=
  ⟨⟨.JMP, .absolute, 3, 3, .none⟩, by change Machine.lookup 0x4C#8 = _; decide, rfl, rfl⟩
theorem jmpInd (addr : Addr) : Statement (.jmpInd addr) :=
  ⟨⟨.JMP, .indirect, 3, 5, .none⟩, by change Machine.lookup 0x6C#8 = _; decide, rfl, rfl⟩
theorem jsrAbs (addr : Addr) : Statement (.jsrAbs addr) :=
  ⟨⟨.JSR, .absolute, 3, 6, .none⟩, by change Machine.lookup 0x20#8 = _; decide, rfl, rfl⟩
theorem rts : Statement .rts :=
  ⟨⟨.RTS, .implied, 1, 6, .none⟩, by change Machine.lookup 0x60#8 = _; decide, rfl, rfl⟩
theorem rti : Statement .rti :=
  ⟨⟨.RTI, .implied, 1, 6, .none⟩, by change Machine.lookup 0x40#8 = _; decide, rfl, rfl⟩
theorem brk : Statement .brk :=
  ⟨⟨.BRK, .implied, 1, 7, .none⟩, by change Machine.lookup 0x00#8 = _; decide, rfl, rfl⟩
theorem clc : Statement .clc :=
  ⟨⟨.CLC, .implied, 1, 2, .none⟩, by change Machine.lookup 0x18#8 = _; decide, rfl, rfl⟩
theorem sec : Statement .sec :=
  ⟨⟨.SEC, .implied, 1, 2, .none⟩, by change Machine.lookup 0x38#8 = _; decide, rfl, rfl⟩
theorem cli : Statement .cli :=
  ⟨⟨.CLI, .implied, 1, 2, .none⟩, by change Machine.lookup 0x58#8 = _; decide, rfl, rfl⟩
theorem sei : Statement .sei :=
  ⟨⟨.SEI, .implied, 1, 2, .none⟩, by change Machine.lookup 0x78#8 = _; decide, rfl, rfl⟩
theorem cld : Statement .cld :=
  ⟨⟨.CLD, .implied, 1, 2, .none⟩, by change Machine.lookup 0xD8#8 = _; decide, rfl, rfl⟩
theorem sed : Statement .sed :=
  ⟨⟨.SED, .implied, 1, 2, .none⟩, by change Machine.lookup 0xF8#8 = _; decide, rfl, rfl⟩
theorem clv : Statement .clv :=
  ⟨⟨.CLV, .implied, 1, 2, .none⟩, by change Machine.lookup 0xB8#8 = _; decide, rfl, rfl⟩
theorem nop : Statement .nop :=
  ⟨⟨.NOP, .implied, 1, 2, .none⟩, by change Machine.lookup 0xEA#8 = _; decide, rfl, rfl⟩

end Sys2Proof.Laws.RomSize

namespace Sys2Proof.Laws

/-- The fact of every instruction. -/
theorem rom_size_of_every : (i : Instr) → RomSize.Statement i
  | .ldaIndX zp => RomSize.ldaIndX zp
  | .ldaZp zp => RomSize.ldaZp zp
  | .ldaImm imm => RomSize.ldaImm imm
  | .ldaAbs addr => RomSize.ldaAbs addr
  | .ldaIndY zp => RomSize.ldaIndY zp
  | .ldaZpX zp => RomSize.ldaZpX zp
  | .ldaAbsY addr => RomSize.ldaAbsY addr
  | .ldaAbsX addr => RomSize.ldaAbsX addr
  | .ldxImm imm => RomSize.ldxImm imm
  | .ldxZp zp => RomSize.ldxZp zp
  | .ldxAbs addr => RomSize.ldxAbs addr
  | .ldxZpY zp => RomSize.ldxZpY zp
  | .ldxAbsY addr => RomSize.ldxAbsY addr
  | .ldyImm imm => RomSize.ldyImm imm
  | .ldyZp zp => RomSize.ldyZp zp
  | .ldyAbs addr => RomSize.ldyAbs addr
  | .ldyZpX zp => RomSize.ldyZpX zp
  | .ldyAbsX addr => RomSize.ldyAbsX addr
  | .staIndX zp => RomSize.staIndX zp
  | .staZp zp => RomSize.staZp zp
  | .staAbs addr => RomSize.staAbs addr
  | .staIndY zp => RomSize.staIndY zp
  | .staZpX zp => RomSize.staZpX zp
  | .staAbsY addr => RomSize.staAbsY addr
  | .staAbsX addr => RomSize.staAbsX addr
  | .stxZp zp => RomSize.stxZp zp
  | .stxAbs addr => RomSize.stxAbs addr
  | .stxZpY zp => RomSize.stxZpY zp
  | .styZp zp => RomSize.styZp zp
  | .styAbs addr => RomSize.styAbs addr
  | .styZpX zp => RomSize.styZpX zp
  | .tax => RomSize.tax
  | .tay => RomSize.tay
  | .tsx => RomSize.tsx
  | .txa => RomSize.txa
  | .txs => RomSize.txs
  | .tya => RomSize.tya
  | .pha => RomSize.pha
  | .php => RomSize.php
  | .pla => RomSize.pla
  | .plp => RomSize.plp
  | .adcIndX zp => RomSize.adcIndX zp
  | .adcZp zp => RomSize.adcZp zp
  | .adcImm imm => RomSize.adcImm imm
  | .adcAbs addr => RomSize.adcAbs addr
  | .adcIndY zp => RomSize.adcIndY zp
  | .adcZpX zp => RomSize.adcZpX zp
  | .adcAbsY addr => RomSize.adcAbsY addr
  | .adcAbsX addr => RomSize.adcAbsX addr
  | .sbcIndX zp => RomSize.sbcIndX zp
  | .sbcZp zp => RomSize.sbcZp zp
  | .sbcImm imm => RomSize.sbcImm imm
  | .sbcAbs addr => RomSize.sbcAbs addr
  | .sbcIndY zp => RomSize.sbcIndY zp
  | .sbcZpX zp => RomSize.sbcZpX zp
  | .sbcAbsY addr => RomSize.sbcAbsY addr
  | .sbcAbsX addr => RomSize.sbcAbsX addr
  | .andIndX zp => RomSize.andIndX zp
  | .andZp zp => RomSize.andZp zp
  | .andImm imm => RomSize.andImm imm
  | .andAbs addr => RomSize.andAbs addr
  | .andIndY zp => RomSize.andIndY zp
  | .andZpX zp => RomSize.andZpX zp
  | .andAbsY addr => RomSize.andAbsY addr
  | .andAbsX addr => RomSize.andAbsX addr
  | .oraIndX zp => RomSize.oraIndX zp
  | .oraZp zp => RomSize.oraZp zp
  | .oraImm imm => RomSize.oraImm imm
  | .oraAbs addr => RomSize.oraAbs addr
  | .oraIndY zp => RomSize.oraIndY zp
  | .oraZpX zp => RomSize.oraZpX zp
  | .oraAbsY addr => RomSize.oraAbsY addr
  | .oraAbsX addr => RomSize.oraAbsX addr
  | .eorIndX zp => RomSize.eorIndX zp
  | .eorZp zp => RomSize.eorZp zp
  | .eorImm imm => RomSize.eorImm imm
  | .eorAbs addr => RomSize.eorAbs addr
  | .eorIndY zp => RomSize.eorIndY zp
  | .eorZpX zp => RomSize.eorZpX zp
  | .eorAbsY addr => RomSize.eorAbsY addr
  | .eorAbsX addr => RomSize.eorAbsX addr
  | .cmpIndX zp => RomSize.cmpIndX zp
  | .cmpZp zp => RomSize.cmpZp zp
  | .cmpImm imm => RomSize.cmpImm imm
  | .cmpAbs addr => RomSize.cmpAbs addr
  | .cmpIndY zp => RomSize.cmpIndY zp
  | .cmpZpX zp => RomSize.cmpZpX zp
  | .cmpAbsY addr => RomSize.cmpAbsY addr
  | .cmpAbsX addr => RomSize.cmpAbsX addr
  | .cpxImm imm => RomSize.cpxImm imm
  | .cpxZp zp => RomSize.cpxZp zp
  | .cpxAbs addr => RomSize.cpxAbs addr
  | .cpyImm imm => RomSize.cpyImm imm
  | .cpyZp zp => RomSize.cpyZp zp
  | .cpyAbs addr => RomSize.cpyAbs addr
  | .bitZp zp => RomSize.bitZp zp
  | .bitAbs addr => RomSize.bitAbs addr
  | .aslZp zp => RomSize.aslZp zp
  | .aslAcc => RomSize.aslAcc
  | .aslAbs addr => RomSize.aslAbs addr
  | .aslZpX zp => RomSize.aslZpX zp
  | .aslAbsX addr => RomSize.aslAbsX addr
  | .lsrZp zp => RomSize.lsrZp zp
  | .lsrAcc => RomSize.lsrAcc
  | .lsrAbs addr => RomSize.lsrAbs addr
  | .lsrZpX zp => RomSize.lsrZpX zp
  | .lsrAbsX addr => RomSize.lsrAbsX addr
  | .rolZp zp => RomSize.rolZp zp
  | .rolAcc => RomSize.rolAcc
  | .rolAbs addr => RomSize.rolAbs addr
  | .rolZpX zp => RomSize.rolZpX zp
  | .rolAbsX addr => RomSize.rolAbsX addr
  | .rorZp zp => RomSize.rorZp zp
  | .rorAcc => RomSize.rorAcc
  | .rorAbs addr => RomSize.rorAbs addr
  | .rorZpX zp => RomSize.rorZpX zp
  | .rorAbsX addr => RomSize.rorAbsX addr
  | .incZp zp => RomSize.incZp zp
  | .incAbs addr => RomSize.incAbs addr
  | .incZpX zp => RomSize.incZpX zp
  | .incAbsX addr => RomSize.incAbsX addr
  | .decZp zp => RomSize.decZp zp
  | .decAbs addr => RomSize.decAbs addr
  | .decZpX zp => RomSize.decZpX zp
  | .decAbsX addr => RomSize.decAbsX addr
  | .inx => RomSize.inx
  | .iny => RomSize.iny
  | .dex => RomSize.dex
  | .dey => RomSize.dey
  | .bpl off => RomSize.bpl off
  | .bmi off => RomSize.bmi off
  | .bvc off => RomSize.bvc off
  | .bvs off => RomSize.bvs off
  | .bcc off => RomSize.bcc off
  | .bcs off => RomSize.bcs off
  | .bne off => RomSize.bne off
  | .beq off => RomSize.beq off
  | .jmpAbs addr => RomSize.jmpAbs addr
  | .jmpInd addr => RomSize.jmpInd addr
  | .jsrAbs addr => RomSize.jsrAbs addr
  | .rts => RomSize.rts
  | .rti => RomSize.rti
  | .brk => RomSize.brk
  | .clc => RomSize.clc
  | .sec => RomSize.sec
  | .cli => RomSize.cli
  | .sei => RomSize.sei
  | .cld => RomSize.cld
  | .sed => RomSize.sed
  | .clv => RomSize.clv
  | .nop => RomSize.nop

end Sys2Proof.Laws
end

