-- ==== Sys2Proof/Laws/Resolver.lean ====
section
/-!
SUPPORT. The ROM and the resolver: how a check over all opcode values gives a fact of every defined one,
and that the resolver uses no operand byte a mode has not (R151), with the number of its reads (R153).
-/
namespace Sys2Proof.Machine

/-- A check that holds at every opcode value holds of every spec that lookup answers. -/
theorem lookup_forall {P : Byte → InstructionSpec → Bool}
    (h : ∀ op, (match lookup op with | .ok spec => P op spec | .error _ => true) = true) :
    ∀ op spec, lookup op = .ok spec → P op spec = true := by
  intro op spec hl
  have hop := h op
  rw [hl] at hop
  exact hop

/-- Lookup at an undefined opcode value (R64, R69). -/
theorem lookup_of_undefined :
    ∀ op : Byte, op ∈ undefinedOpcodes → lookup op = .error (.unknownOpcode op) := by decide

/-- Lookup at every other opcode value answers a spec (R69, R77). -/
theorem lookup_of_defined (op : Byte) (h : op ∉ undefinedOpcodes) : ∃ spec, lookup op = .ok spec := by
  have key : ∀ op : Byte, op ∉ undefinedOpcodes → (lookup op).toOption.isSome = true := by decide
  have hop := key op h
  cases hl : lookup op with
  | ok spec => exact ⟨spec, rfl⟩
  | error e => rw [hl] at hop; cases hop

/-- The operand byte count the resolver answers is the mode's (R151). -/
@[simp] theorem resolveWith_extraBytes (mode : Mode) (b1 b2 : Byte) (pc : Addr) (x y : Byte)
    (m : Memory) : (resolveWith mode b1 b2 pc x y m).extraBytes = extraBytes mode := by
  cases mode <;> rfl

/-- A mode without operand bytes uses none. -/
theorem resolveWith_of_no_byte {mode : Mode} (h : extraBytes mode = 0) (b1 b1' b2 b2' : Byte)
    (pc : Addr) (x y : Byte) (m : Memory) :
    resolveWith mode b1 b2 pc x y m = resolveWith mode b1' b2' pc x y m ∧
      resolverReads mode b1 b2 pc x = resolverReads mode b1' b2' pc x := by
  cases mode <;> simp [extraBytes] at h <;> exact ⟨rfl, rfl⟩

/-- A mode with at most one operand byte does not use a second. -/
theorem resolveWith_of_one_byte {mode : Mode} (h : extraBytes mode ≤ 1) (b1 b2 b2' : Byte)
    (pc : Addr) (x y : Byte) (m : Memory) :
    resolveWith mode b1 b2 pc x y m = resolveWith mode b1 b2' pc x y m ∧
      resolverReads mode b1 b2 pc x = resolverReads mode b1 b2' pc x := by
  cases mode <;> simp [extraBytes] at h <;> exact ⟨rfl, rfl⟩

/-- The reads of the resolver and the opcode read make the mode's total (R153). -/
theorem resolverReads_length (mode : Mode) (b1 b2 : Byte) (pc : Addr) (x : Byte) :
    (resolverReads mode b1 b2 pc x).length + 1 = readsOfMode mode := by
  cases mode <;> rfl

/-- An evaluation reads the opcode byte first. -/
theorem blockReads_ne_nil (pc : Addr) (x : Byte) (m : Memory) : blockReads pc x m ≠ [] := by
  unfold blockReads
  split <;> simp

/-- The total is the base count and at most two more, by class (R160). -/
theorem totalCycles_bounds (spec : InstructionSpec) (bt px : Bool) :
    spec.baseCycles ≤ totalCycles spec bt px ∧ totalCycles spec bt px ≤ spec.baseCycles + 2 := by
  unfold totalCycles extras
  cases spec.cls <;> cases bt <;> cases px <;> simp

end Sys2Proof.Machine
end

