-- ==== Sys2Proof/Tests/Slice0.lean ====
section
/-!
SUPPORT. Tests of the model: the words of every instruction written out from the spec's encodings, the
vectors of 95_test_vectors, the Example lines of 41 to 46, terms that WellFormed refuses, and a witness
for each obligation that has hypotheses (`witness_<obligation>`). Expected results are the spec's.
-/
namespace Sys2Proof.Tests

open Sys2Proof.Machine

/-! ## Helpers -/

/-- The inputs `pc x y bt` over a memory of the given cells, the bytes of an instruction at `pc`. -/
def given (pc : Addr) (x y : Byte) (bt : Bool) (bytes : List Byte) (cells : List (Addr × Byte)) :
    Machine.State :=
  ((cells.foldl (fun s c => s.callerStore c.1 c.2) State.reset).present pc x y bt).storeBytes pc bytes

/-- The resolver answers this over a memory of the given cells. -/
def resolves (mode : Mode) (pc : Addr) (x y : Byte) (cells : List (Addr × Byte)) (ea : Option Addr)
    (extra : Nat) (crossed : Bool) : Bool :=
  resolve mode pc x y (given pc x y false [] cells).mem == ⟨ea, extra, crossed⟩

/-- The record of the step at `s`, if it completes. -/
def record (s : Machine.State) : Option DecodedInstruction :=
  match step s with
  | .next t => t.out
  | .fault _ => none
  | .refused _ => none

/-- The step at `s` completes with this record, and changes no input. -/
def decodes (s : Machine.State) (mn : Mnemonic) (mode : Mode) (size : Nat) (ea : Option Addr)
    (crossed : Bool) (total : Nat) : Bool :=
  match step s with
  | .next t =>
    { t with out := s.out, busReads := s.busReads } == s &&
      match t.out with
      | some d =>
        d.opcode == s.mem.read s.pc && d.spec.mnemonic == mn && d.spec.mode == mode &&
          d.spec.size == size && d.address == ea && d.pageCrossed == crossed && d.totalCycles == total
      | none => false
  | .fault _ => false
  | .refused _ => false

/-- The step at `s` ends in `UnknownOpcode op`. -/
def faults (s : Machine.State) (op : Byte) : Bool :=
  match step s with
  | .next _ => false
  | .fault f => f == .unknownOpcode op
  | .refused _ => false

/-- The step at `s` completes with this record, and the loop goes on at `next`. -/
def traces (s : Machine.State) (mn : Mnemonic) (mode : Mode) (ea : Option Addr) (crossed : Bool)
    (total : Nat) (next : Option Addr) : Bool :=
  match record s with
  | some d =>
    d.spec.mnemonic == mn && d.spec.mode == mode && d.address == ea && d.pageCrossed == crossed &&
      d.totalCycles == total && loopNextPc s.pc s.bt d == next
  | none => false

/-! ## WellFormed: the one check there is, at its ends -/

theorem test_wellFormed_refuses_offset_128 : (Instr.bne 128).wellFormed = false := by decide

theorem test_wellFormed_refuses_offset_minus_129 : (Instr.beq (-129)).wellFormed = false := by decide

theorem test_wellFormed_accepts_offset_ends :
    (Instr.bpl (-128)).wellFormed = true ∧ (Instr.bpl 127).wellFormed = true := by decide

theorem test_wellFormed_accepts_operand_ends :
    (Instr.ldaImm 0xFF).wellFormed = true ∧ (Instr.jmpInd 0xFFFF).wellFormed = true := by decide

/-! ## Words: every instruction from the bytes column of its rule, bit by bit -/

/-- The bytes column of R81. -/
theorem test_word_lda :
    decodeInstr 0b10100001 0x9C 0xA5 = some (.ldaIndX 0x9C) ∧
    decodeInstr 0b10100101 0x9C 0xA5 = some (.ldaZp 0x9C) ∧
    decodeInstr 0b10101001 0x9C 0xA5 = some (.ldaImm 0x9C) ∧
    decodeInstr 0b10101101 0x34 0x12 = some (.ldaAbs 0x1234) ∧
    decodeInstr 0b10110001 0x9C 0xA5 = some (.ldaIndY 0x9C) ∧
    decodeInstr 0b10110101 0x9C 0xA5 = some (.ldaZpX 0x9C) ∧
    decodeInstr 0b10111001 0x34 0x12 = some (.ldaAbsY 0x1234) ∧
    decodeInstr 0b10111101 0x34 0x12 = some (.ldaAbsX 0x1234) := by decide

/-- The bytes column of R82. -/
theorem test_word_ldx :
    decodeInstr 0b10100010 0x9C 0xA5 = some (.ldxImm 0x9C) ∧
    decodeInstr 0b10100110 0x9C 0xA5 = some (.ldxZp 0x9C) ∧
    decodeInstr 0b10101110 0x34 0x12 = some (.ldxAbs 0x1234) ∧
    decodeInstr 0b10110110 0x9C 0xA5 = some (.ldxZpY 0x9C) ∧
    decodeInstr 0b10111110 0x34 0x12 = some (.ldxAbsY 0x1234) := by decide

/-- The bytes column of R83. -/
theorem test_word_ldy :
    decodeInstr 0b10100000 0x9C 0xA5 = some (.ldyImm 0x9C) ∧
    decodeInstr 0b10100100 0x9C 0xA5 = some (.ldyZp 0x9C) ∧
    decodeInstr 0b10101100 0x34 0x12 = some (.ldyAbs 0x1234) ∧
    decodeInstr 0b10110100 0x9C 0xA5 = some (.ldyZpX 0x9C) ∧
    decodeInstr 0b10111100 0x34 0x12 = some (.ldyAbsX 0x1234) := by decide

/-- The bytes column of R84. -/
theorem test_word_sta :
    decodeInstr 0b10000001 0x9C 0xA5 = some (.staIndX 0x9C) ∧
    decodeInstr 0b10000101 0x9C 0xA5 = some (.staZp 0x9C) ∧
    decodeInstr 0b10001101 0x34 0x12 = some (.staAbs 0x1234) ∧
    decodeInstr 0b10010001 0x9C 0xA5 = some (.staIndY 0x9C) ∧
    decodeInstr 0b10010101 0x9C 0xA5 = some (.staZpX 0x9C) ∧
    decodeInstr 0b10011001 0x34 0x12 = some (.staAbsY 0x1234) ∧
    decodeInstr 0b10011101 0x34 0x12 = some (.staAbsX 0x1234) := by decide

/-- The bytes column of R85. -/
theorem test_word_stx :
    decodeInstr 0b10000110 0x9C 0xA5 = some (.stxZp 0x9C) ∧
    decodeInstr 0b10001110 0x34 0x12 = some (.stxAbs 0x1234) ∧
    decodeInstr 0b10010110 0x9C 0xA5 = some (.stxZpY 0x9C) := by decide

/-- The bytes column of R86. -/
theorem test_word_sty :
    decodeInstr 0b10000100 0x9C 0xA5 = some (.styZp 0x9C) ∧
    decodeInstr 0b10001100 0x34 0x12 = some (.styAbs 0x1234) ∧
    decodeInstr 0b10010100 0x9C 0xA5 = some (.styZpX 0x9C) := by decide

/-- The bytes column of R87. -/
theorem test_word_tax :
    decodeInstr 0b10101010 0x5A 0xA5 = some .tax := by decide

/-- The bytes column of R88. -/
theorem test_word_tay :
    decodeInstr 0b10101000 0x5A 0xA5 = some .tay := by decide

/-- The bytes column of R89. -/
theorem test_word_tsx :
    decodeInstr 0b10111010 0x5A 0xA5 = some .tsx := by decide

/-- The bytes column of R90. -/
theorem test_word_txa :
    decodeInstr 0b10001010 0x5A 0xA5 = some .txa := by decide

/-- The bytes column of R91. -/
theorem test_word_txs :
    decodeInstr 0b10011010 0x5A 0xA5 = some .txs := by decide

/-- The bytes column of R92. -/
theorem test_word_tya :
    decodeInstr 0b10011000 0x5A 0xA5 = some .tya := by decide

/-- The bytes column of R93. -/
theorem test_word_pha :
    decodeInstr 0b01001000 0x5A 0xA5 = some .pha := by decide

/-- The bytes column of R94. -/
theorem test_word_php :
    decodeInstr 0b00001000 0x5A 0xA5 = some .php := by decide

/-- The bytes column of R95. -/
theorem test_word_pla :
    decodeInstr 0b01101000 0x5A 0xA5 = some .pla := by decide

/-- The bytes column of R96. -/
theorem test_word_plp :
    decodeInstr 0b00101000 0x5A 0xA5 = some .plp := by decide

/-- The bytes column of R97. -/
theorem test_word_adc :
    decodeInstr 0b01100001 0x9C 0xA5 = some (.adcIndX 0x9C) ∧
    decodeInstr 0b01100101 0x9C 0xA5 = some (.adcZp 0x9C) ∧
    decodeInstr 0b01101001 0x9C 0xA5 = some (.adcImm 0x9C) ∧
    decodeInstr 0b01101101 0x34 0x12 = some (.adcAbs 0x1234) ∧
    decodeInstr 0b01110001 0x9C 0xA5 = some (.adcIndY 0x9C) ∧
    decodeInstr 0b01110101 0x9C 0xA5 = some (.adcZpX 0x9C) ∧
    decodeInstr 0b01111001 0x34 0x12 = some (.adcAbsY 0x1234) ∧
    decodeInstr 0b01111101 0x34 0x12 = some (.adcAbsX 0x1234) := by decide

/-- The bytes column of R98. -/
theorem test_word_sbc :
    decodeInstr 0b11100001 0x9C 0xA5 = some (.sbcIndX 0x9C) ∧
    decodeInstr 0b11100101 0x9C 0xA5 = some (.sbcZp 0x9C) ∧
    decodeInstr 0b11101001 0x9C 0xA5 = some (.sbcImm 0x9C) ∧
    decodeInstr 0b11101101 0x34 0x12 = some (.sbcAbs 0x1234) ∧
    decodeInstr 0b11110001 0x9C 0xA5 = some (.sbcIndY 0x9C) ∧
    decodeInstr 0b11110101 0x9C 0xA5 = some (.sbcZpX 0x9C) ∧
    decodeInstr 0b11111001 0x34 0x12 = some (.sbcAbsY 0x1234) ∧
    decodeInstr 0b11111101 0x34 0x12 = some (.sbcAbsX 0x1234) := by decide

/-- The bytes column of R99. -/
theorem test_word_and :
    decodeInstr 0b00100001 0x9C 0xA5 = some (.andIndX 0x9C) ∧
    decodeInstr 0b00100101 0x9C 0xA5 = some (.andZp 0x9C) ∧
    decodeInstr 0b00101001 0x9C 0xA5 = some (.andImm 0x9C) ∧
    decodeInstr 0b00101101 0x34 0x12 = some (.andAbs 0x1234) ∧
    decodeInstr 0b00110001 0x9C 0xA5 = some (.andIndY 0x9C) ∧
    decodeInstr 0b00110101 0x9C 0xA5 = some (.andZpX 0x9C) ∧
    decodeInstr 0b00111001 0x34 0x12 = some (.andAbsY 0x1234) ∧
    decodeInstr 0b00111101 0x34 0x12 = some (.andAbsX 0x1234) := by decide

/-- The bytes column of R100. -/
theorem test_word_ora :
    decodeInstr 0b00000001 0x9C 0xA5 = some (.oraIndX 0x9C) ∧
    decodeInstr 0b00000101 0x9C 0xA5 = some (.oraZp 0x9C) ∧
    decodeInstr 0b00001001 0x9C 0xA5 = some (.oraImm 0x9C) ∧
    decodeInstr 0b00001101 0x34 0x12 = some (.oraAbs 0x1234) ∧
    decodeInstr 0b00010001 0x9C 0xA5 = some (.oraIndY 0x9C) ∧
    decodeInstr 0b00010101 0x9C 0xA5 = some (.oraZpX 0x9C) ∧
    decodeInstr 0b00011001 0x34 0x12 = some (.oraAbsY 0x1234) ∧
    decodeInstr 0b00011101 0x34 0x12 = some (.oraAbsX 0x1234) := by decide

/-- The bytes column of R101. -/
theorem test_word_eor :
    decodeInstr 0b01000001 0x9C 0xA5 = some (.eorIndX 0x9C) ∧
    decodeInstr 0b01000101 0x9C 0xA5 = some (.eorZp 0x9C) ∧
    decodeInstr 0b01001001 0x9C 0xA5 = some (.eorImm 0x9C) ∧
    decodeInstr 0b01001101 0x34 0x12 = some (.eorAbs 0x1234) ∧
    decodeInstr 0b01010001 0x9C 0xA5 = some (.eorIndY 0x9C) ∧
    decodeInstr 0b01010101 0x9C 0xA5 = some (.eorZpX 0x9C) ∧
    decodeInstr 0b01011001 0x34 0x12 = some (.eorAbsY 0x1234) ∧
    decodeInstr 0b01011101 0x34 0x12 = some (.eorAbsX 0x1234) := by decide

/-- The bytes column of R102. -/
theorem test_word_cmp :
    decodeInstr 0b11000001 0x9C 0xA5 = some (.cmpIndX 0x9C) ∧
    decodeInstr 0b11000101 0x9C 0xA5 = some (.cmpZp 0x9C) ∧
    decodeInstr 0b11001001 0x9C 0xA5 = some (.cmpImm 0x9C) ∧
    decodeInstr 0b11001101 0x34 0x12 = some (.cmpAbs 0x1234) ∧
    decodeInstr 0b11010001 0x9C 0xA5 = some (.cmpIndY 0x9C) ∧
    decodeInstr 0b11010101 0x9C 0xA5 = some (.cmpZpX 0x9C) ∧
    decodeInstr 0b11011001 0x34 0x12 = some (.cmpAbsY 0x1234) ∧
    decodeInstr 0b11011101 0x34 0x12 = some (.cmpAbsX 0x1234) := by decide

/-- The bytes column of R103. -/
theorem test_word_cpx :
    decodeInstr 0b11100000 0x9C 0xA5 = some (.cpxImm 0x9C) ∧
    decodeInstr 0b11100100 0x9C 0xA5 = some (.cpxZp 0x9C) ∧
    decodeInstr 0b11101100 0x34 0x12 = some (.cpxAbs 0x1234) := by decide

/-- The bytes column of R104. -/
theorem test_word_cpy :
    decodeInstr 0b11000000 0x9C 0xA5 = some (.cpyImm 0x9C) ∧
    decodeInstr 0b11000100 0x9C 0xA5 = some (.cpyZp 0x9C) ∧
    decodeInstr 0b11001100 0x34 0x12 = some (.cpyAbs 0x1234) := by decide

/-- The bytes column of R105. -/
theorem test_word_bit :
    decodeInstr 0b00100100 0x9C 0xA5 = some (.bitZp 0x9C) ∧
    decodeInstr 0b00101100 0x34 0x12 = some (.bitAbs 0x1234) := by decide

/-- The bytes column of R106. -/
theorem test_word_asl :
    decodeInstr 0b00000110 0x9C 0xA5 = some (.aslZp 0x9C) ∧
    decodeInstr 0b00001010 0x5A 0xA5 = some .aslAcc ∧
    decodeInstr 0b00001110 0x34 0x12 = some (.aslAbs 0x1234) ∧
    decodeInstr 0b00010110 0x9C 0xA5 = some (.aslZpX 0x9C) ∧
    decodeInstr 0b00011110 0x34 0x12 = some (.aslAbsX 0x1234) := by decide

/-- The bytes column of R107. -/
theorem test_word_lsr :
    decodeInstr 0b01000110 0x9C 0xA5 = some (.lsrZp 0x9C) ∧
    decodeInstr 0b01001010 0x5A 0xA5 = some .lsrAcc ∧
    decodeInstr 0b01001110 0x34 0x12 = some (.lsrAbs 0x1234) ∧
    decodeInstr 0b01010110 0x9C 0xA5 = some (.lsrZpX 0x9C) ∧
    decodeInstr 0b01011110 0x34 0x12 = some (.lsrAbsX 0x1234) := by decide

/-- The bytes column of R108. -/
theorem test_word_rol :
    decodeInstr 0b00100110 0x9C 0xA5 = some (.rolZp 0x9C) ∧
    decodeInstr 0b00101010 0x5A 0xA5 = some .rolAcc ∧
    decodeInstr 0b00101110 0x34 0x12 = some (.rolAbs 0x1234) ∧
    decodeInstr 0b00110110 0x9C 0xA5 = some (.rolZpX 0x9C) ∧
    decodeInstr 0b00111110 0x34 0x12 = some (.rolAbsX 0x1234) := by decide

/-- The bytes column of R109. -/
theorem test_word_ror :
    decodeInstr 0b01100110 0x9C 0xA5 = some (.rorZp 0x9C) ∧
    decodeInstr 0b01101010 0x5A 0xA5 = some .rorAcc ∧
    decodeInstr 0b01101110 0x34 0x12 = some (.rorAbs 0x1234) ∧
    decodeInstr 0b01110110 0x9C 0xA5 = some (.rorZpX 0x9C) ∧
    decodeInstr 0b01111110 0x34 0x12 = some (.rorAbsX 0x1234) := by decide

/-- The bytes column of R110. -/
theorem test_word_inc :
    decodeInstr 0b11100110 0x9C 0xA5 = some (.incZp 0x9C) ∧
    decodeInstr 0b11101110 0x34 0x12 = some (.incAbs 0x1234) ∧
    decodeInstr 0b11110110 0x9C 0xA5 = some (.incZpX 0x9C) ∧
    decodeInstr 0b11111110 0x34 0x12 = some (.incAbsX 0x1234) := by decide

/-- The bytes column of R111. -/
theorem test_word_dec :
    decodeInstr 0b11000110 0x9C 0xA5 = some (.decZp 0x9C) ∧
    decodeInstr 0b11001110 0x34 0x12 = some (.decAbs 0x1234) ∧
    decodeInstr 0b11010110 0x9C 0xA5 = some (.decZpX 0x9C) ∧
    decodeInstr 0b11011110 0x34 0x12 = some (.decAbsX 0x1234) := by decide

/-- The bytes column of R112. -/
theorem test_word_inx :
    decodeInstr 0b11101000 0x5A 0xA5 = some .inx := by decide

/-- The bytes column of R113. -/
theorem test_word_iny :
    decodeInstr 0b11001000 0x5A 0xA5 = some .iny := by decide

/-- The bytes column of R114. -/
theorem test_word_dex :
    decodeInstr 0b11001010 0x5A 0xA5 = some .dex := by decide

/-- The bytes column of R115. -/
theorem test_word_dey :
    decodeInstr 0b10001000 0x5A 0xA5 = some .dey := by decide

/-- The bytes column of R116. -/
theorem test_word_bpl :
    decodeInstr 0b00010000 0x80 0xA5 = some (.bpl (-128)) ∧
    decodeInstr 0b00010000 0x7F 0xA5 = some (.bpl 127) := by decide

/-- The bytes column of R117. -/
theorem test_word_bmi :
    decodeInstr 0b00110000 0x80 0xA5 = some (.bmi (-128)) ∧
    decodeInstr 0b00110000 0x7F 0xA5 = some (.bmi 127) := by decide

/-- The bytes column of R118. -/
theorem test_word_bvc :
    decodeInstr 0b01010000 0x80 0xA5 = some (.bvc (-128)) ∧
    decodeInstr 0b01010000 0x7F 0xA5 = some (.bvc 127) := by decide

/-- The bytes column of R119. -/
theorem test_word_bvs :
    decodeInstr 0b01110000 0x80 0xA5 = some (.bvs (-128)) ∧
    decodeInstr 0b01110000 0x7F 0xA5 = some (.bvs 127) := by decide

/-- The bytes column of R120. -/
theorem test_word_bcc :
    decodeInstr 0b10010000 0x80 0xA5 = some (.bcc (-128)) ∧
    decodeInstr 0b10010000 0x7F 0xA5 = some (.bcc 127) := by decide

/-- The bytes column of R121. -/
theorem test_word_bcs :
    decodeInstr 0b10110000 0x80 0xA5 = some (.bcs (-128)) ∧
    decodeInstr 0b10110000 0x7F 0xA5 = some (.bcs 127) := by decide

/-- The bytes column of R122. -/
theorem test_word_bne :
    decodeInstr 0b11010000 0x80 0xA5 = some (.bne (-128)) ∧
    decodeInstr 0b11010000 0x7F 0xA5 = some (.bne 127) := by decide

/-- The bytes column of R123. -/
theorem test_word_beq :
    decodeInstr 0b11110000 0x80 0xA5 = some (.beq (-128)) ∧
    decodeInstr 0b11110000 0x7F 0xA5 = some (.beq 127) := by decide

/-- The bytes column of R124. -/
theorem test_word_jmp :
    decodeInstr 0b01001100 0x34 0x12 = some (.jmpAbs 0x1234) ∧
    decodeInstr 0b01101100 0x34 0x12 = some (.jmpInd 0x1234) := by decide

/-- The bytes column of R125. -/
theorem test_word_jsr :
    decodeInstr 0b00100000 0x34 0x12 = some (.jsrAbs 0x1234) := by decide

/-- The bytes column of R126. -/
theorem test_word_rts :
    decodeInstr 0b01100000 0x5A 0xA5 = some .rts := by decide

/-- The bytes column of R127. -/
theorem test_word_rti :
    decodeInstr 0b01000000 0x5A 0xA5 = some .rti := by decide

/-- The bytes column of R128. -/
theorem test_word_brk :
    decodeInstr 0b00000000 0x5A 0xA5 = some .brk := by decide

/-- The bytes column of R129. -/
theorem test_word_clc :
    decodeInstr 0b00011000 0x5A 0xA5 = some .clc := by decide

/-- The bytes column of R130. -/
theorem test_word_sec :
    decodeInstr 0b00111000 0x5A 0xA5 = some .sec := by decide

/-- The bytes column of R131. -/
theorem test_word_cli :
    decodeInstr 0b01011000 0x5A 0xA5 = some .cli := by decide

/-- The bytes column of R132. -/
theorem test_word_sei :
    decodeInstr 0b01111000 0x5A 0xA5 = some .sei := by decide

/-- The bytes column of R133. -/
theorem test_word_cld :
    decodeInstr 0b11011000 0x5A 0xA5 = some .cld := by decide

/-- The bytes column of R134. -/
theorem test_word_sed :
    decodeInstr 0b11111000 0x5A 0xA5 = some .sed := by decide

/-- The bytes column of R135. -/
theorem test_word_clv :
    decodeInstr 0b10111000 0x5A 0xA5 = some .clv := by decide

/-- The bytes column of R136. -/
theorem test_word_nop :
    decodeInstr 0b11101010 0x5A 0xA5 = some .nop := by decide

/-! ## The worked examples of the source (95_test_vectors Part 1) -/

/-- S2: `lookup(0x02)` is `UnknownOpcode`, and a decode there reads one byte. -/
theorem test_S2 :
    (match lookup 0x02 with | .error e => e == .unknownOpcode 0x02 | .ok _ => false) = true ∧
    blockReads 0x8000 0x00 (given 0x8000 0x00 0x00 false [0x02] []).mem = [0x8000] := by decide

/-- S3: ZeropageX with byte 0xFF and X = 1. -/
theorem test_S3 : resolves .zeropageX 0x8000 0x01 0x00 [(0x8001, 0xFF)] (some 0x0000) 1 false := by
  decide

/-- S4: the high byte at 0x3000, not at 0x3100. -/
theorem test_S4 : resolves .indirect 0x8000 0x00 0x00
    [(0x8001, 0xFF), (0x8002, 0x30), (0x30FF, 0x80), (0x3000, 0x40), (0x3100, 0x50)]
    (some 0x4080) 2 false := by decide

/-- S5: the page crossings of AbsoluteX and AbsoluteY. -/
theorem test_S5 :
    resolves .absoluteX 0x8000 0x01 0x00 [(0x8001, 0xFF), (0x8002, 0x20)] (some 0x2100) 2 true ∧
    resolves .absoluteX 0x8000 0x01 0x00 [(0x8001, 0x00), (0x8002, 0x20)] (some 0x2001) 2 false ∧
    resolves .absoluteY 0x8000 0x00 0x01 [(0x8001, 0xFF), (0x8002, 0x20)] (some 0x2100) 2 true ∧
    resolves .absoluteY 0x8000 0x00 0x01 [(0x8001, 0x00), (0x8002, 0x20)] (some 0x2001) 2 false := by
  decide

/-- S7: decoding again gives the identical record. -/
theorem test_S7 :
    (match step (given 0x8000 0x01 0x00 false [0xBD, 0xFF, 0x20] []) with
      | .next t => record t == t.out
      | .fault _ => false
      | .refused _ => false) = true := by decide

/-! ## The resolver, by mode -/

/-- 95_test_vectors Part 2, V-R1 (R138). -/
theorem test_resolve_accumulator :
    resolves .accumulator 0x8000 0x00 0x00 [] (none) 0 false := by decide

/-- 95_test_vectors Part 2, V-R2 (R139). -/
theorem test_resolve_implied :
    resolves .implied 0xFFFF 0x12 0x34 [] (none) 0 false := by decide

/-- 95_test_vectors Part 2, V-R3 to V-R4 (R140). -/
theorem test_resolve_immediate :
    resolves .immediate 0x8000 0x00 0x00 [] (some 0x8001) 1 false ∧
    resolves .immediate 0xFFFF 0x00 0x00 [] (some 0x0000) 1 false := by decide

/-- 95_test_vectors Part 2, V-R5 to V-R6 (R141). -/
theorem test_resolve_zeropage :
    resolves .zeropage 0x8000 0x00 0x00 [(0x8001, 0x42)] (some 0x0042) 1 false ∧
    resolves .zeropage 0xFFFF 0x00 0x00 [(0x0000, 0xFF)] (some 0x00FF) 1 false := by decide

/-- 95_test_vectors Part 2, V-R7 to V-R9 (R142). -/
theorem test_resolve_zeropageX :
    resolves .zeropageX 0x8000 0x01 0x00 [(0x8001, 0xFF)] (some 0x0000) 1 false ∧
    resolves .zeropageX 0x8000 0x10 0x00 [(0x8001, 0x20)] (some 0x0030) 1 false ∧
    resolves .zeropageX 0x8000 0xFF 0x00 [(0x8001, 0xFF)] (some 0x00FE) 1 false := by decide

/-- 95_test_vectors Part 2, V-R10 to V-R11 (R143). -/
theorem test_resolve_zeropageY :
    resolves .zeropageY 0x8000 0x00 0x02 [(0x8001, 0xFF)] (some 0x0001) 1 false ∧
    resolves .zeropageY 0x8000 0x00 0x80 [(0x8001, 0x7F)] (some 0x00FF) 1 false := by decide

/-- 95_test_vectors Part 2, V-R12 to V-R14 (R144). -/
theorem test_resolve_absolute :
    resolves .absolute 0x8000 0x00 0x00 [(0x8001, 0x00), (0x8002, 0x90)] (some 0x9000) 2 false ∧
    resolves .absolute 0xFFFE 0x00 0x00 [(0xFFFF, 0x34), (0x0000, 0x12)] (some 0x1234) 2 false ∧
    resolves .absolute 0xFFFF 0x00 0x00 [(0x0000, 0xCD), (0x0001, 0xAB)]
      (some 0xABCD) 2 false := by decide

/-- 95_test_vectors Part 2, V-R15 to V-R19 (R145). -/
theorem test_resolve_absoluteX :
    resolves .absoluteX 0x8000 0x01 0x00 [(0x8001, 0xFF), (0x8002, 0x20)] (some 0x2100) 2 true ∧
    resolves .absoluteX 0x8000 0x01 0x00 [(0x8001, 0x00), (0x8002, 0x20)] (some 0x2001) 2 false ∧
    resolves .absoluteX 0x8000 0xFF 0x00 [(0x8001, 0x01), (0x8002, 0x20)] (some 0x2100) 2 true ∧
    resolves .absoluteX 0x8000 0x01 0x00 [(0x8001, 0xFF), (0x8002, 0xFF)] (some 0x0000) 2 true ∧
    resolves .absoluteX 0x8000 0x00 0x00 [(0x8001, 0xFF), (0x8002, 0x20)]
      (some 0x20FF) 2 false := by decide

/-- 95_test_vectors Part 2, V-R20 to V-R22 (R146). -/
theorem test_resolve_absoluteY :
    resolves .absoluteY 0x8000 0x00 0x01 [(0x8001, 0xFF), (0x8002, 0x20)] (some 0x2100) 2 true ∧
    resolves .absoluteY 0x8000 0x00 0x80 [(0x8001, 0x80), (0x8002, 0x44)] (some 0x4500) 2 true ∧
    resolves .absoluteY 0x8000 0x00 0x7F [(0x8001, 0x80), (0x8002, 0x44)]
      (some 0x44FF) 2 false := by decide

/-- 95_test_vectors Part 2, V-R23 to V-R31 (R147). -/
theorem test_resolve_relative :
    resolves .relative 0x8000 0x00 0x00 [(0x8001, 0x00)] (some 0x8002) 1 false ∧
    resolves .relative 0x8000 0x00 0x00 [(0x8001, 0xFE)] (some 0x8000) 1 false ∧
    resolves .relative 0x8000 0x00 0x00 [(0x8001, 0x7F)] (some 0x8081) 1 false ∧
    resolves .relative 0x8000 0x00 0x00 [(0x8001, 0x80)] (some 0x7F82) 1 true ∧
    resolves .relative 0x80F0 0x00 0x00 [(0x80F1, 0x0E)] (some 0x8100) 1 true ∧
    resolves .relative 0x80F0 0x00 0x00 [(0x80F1, 0x0D)] (some 0x80FF) 1 false ∧
    resolves .relative 0xFFFC 0x00 0x00 [(0xFFFD, 0x05)] (some 0x0003) 1 true ∧
    resolves .relative 0xFFFE 0x00 0x00 [(0xFFFF, 0xFE)] (some 0xFFFE) 1 true ∧
    resolves .relative 0x00FD 0x00 0x00 [(0x00FE, 0x00)] (some 0x00FF) 1 false := by decide

/-- 95_test_vectors Part 2, V-R32 to V-R35 (R148). -/
theorem test_resolve_indirect :
    resolves .indirect 0x8000 0x00 0x00 [(0x8001, 0xFF), (0x8002, 0x30), (0x30FF, 0x80), (0x3000, 0x40)]
      (some 0x4080) 2 false ∧
    resolves .indirect 0x8000 0x00 0x00 [(0x8001, 0x00), (0x8002, 0x30), (0x3000, 0x34), (0x3001, 0x12)]
      (some 0x1234) 2 false ∧
    resolves .indirect 0x8000 0x00 0x00 [(0x8001, 0xFE), (0x8002, 0x30), (0x30FE, 0x11), (0x30FF, 0x22)]
      (some 0x2211) 2 false ∧
    resolves .indirect 0x8000 0x00 0x00 [(0x8001, 0xFF), (0x8002, 0xFF), (0xFFFF, 0x00), (0xFF00, 0x80)]
      (some 0x8000) 2 false := by decide

/-- 95_test_vectors Part 2, V-R36 to V-R39 (R149). -/
theorem test_resolve_indirectX :
    resolves .indirectX 0x8000 0x01 0x00 [(0x8001, 0xFE), (0x00FF, 0x34), (0x0000, 0x12)]
      (some 0x1234) 1 false ∧
    resolves .indirectX 0x8000 0x04 0x00 [(0x8001, 0x20), (0x0024, 0x74), (0x0025, 0x20)]
      (some 0x2074) 1 false ∧
    resolves .indirectX 0x8000 0x10 0x00 [(0x8001, 0xF5), (0x0005, 0x00), (0x0006, 0x30)]
      (some 0x3000) 1 false ∧
    resolves .indirectX 0x8000 0x00 0x00 [(0x8001, 0xFF), (0x00FF, 0x00), (0x0000, 0x02)]
      (some 0x0200) 1 false := by decide

/-- 95_test_vectors Part 2, V-R40 to V-R43 (R150). -/
theorem test_resolve_indirectY :
    resolves .indirectY 0x8000 0x00 0x10 [(0x8001, 0x40), (0x0040, 0xF8), (0x0041, 0x12)]
      (some 0x1308) 1 true ∧
    resolves .indirectY 0x8000 0x00 0x10 [(0x8001, 0x40), (0x0040, 0x00), (0x0041, 0x12)]
      (some 0x1210) 1 false ∧
    resolves .indirectY 0x8000 0x00 0x01 [(0x8001, 0x86), (0x0086, 0xFF), (0x0087, 0xFF)]
      (some 0x0000) 1 true ∧
    resolves .indirectY 0x8000 0x00 0x05 [(0x8001, 0xFF), (0x00FF, 0x00), (0x0000, 0x04)]
      (some 0x0405) 1 false := by decide

/-! ## Decode, by family (95_test_vectors Part 3) -/

/-- 95_test_vectors Part 3, V-B1 to V-B7. -/
theorem test_decode_branches_1 :
    decodes (given 0x8000 0x00 0x00 false [0xF0, 0x05] [])
      .BEQ .relative 2 (some 0x8007) false 2 ∧
    decodes (given 0x8000 0x00 0x00 true [0xF0, 0x05] [])
      .BEQ .relative 2 (some 0x8007) false 3 ∧
    decodes (given 0x80F0 0x00 0x00 true [0xF0, 0x10] [])
      .BEQ .relative 2 (some 0x8102) true 4 ∧
    decodes (given 0x80F0 0x00 0x00 false [0xF0, 0x10] [])
      .BEQ .relative 2 (some 0x8102) true 2 ∧
    decodes (given 0x8010 0x00 0x00 true [0xD0, 0x80] [])
      .BNE .relative 2 (some 0x7F92) true 4 ∧
    decodes (given 0xFFFC 0x00 0x00 true [0x10, 0x05] [])
      .BPL .relative 2 (some 0x0003) true 4 ∧
    decodes (given 0x8000 0x00 0x00 true [0xB0, 0xFE] [])
      .BCS .relative 2 (some 0x8000) false 3 := by decide

/-- 95_test_vectors Part 3, V-B8 to V-B8. -/
theorem test_decode_branches_2 :
    decodes (given 0x80FE 0x00 0x00 true [0x30, 0x00] [])
      .BMI .relative 2 (some 0x8100) false 3 := by decide

/-- 95_test_vectors Part 3, V-L1 to V-L7. -/
theorem test_decode_load_store_1 :
    decodes (given 0x8000 0x00 0x00 false [0xA9, 0x00] [])
      .LDA .immediate 2 (some 0x8001) false 2 ∧
    decodes (given 0x8000 0x01 0x00 false [0xBD, 0xFF, 0x20] [])
      .LDA .absoluteX 3 (some 0x2100) true 5 ∧
    decodes (given 0x8000 0x01 0x00 false [0xBD, 0x00, 0x20] [])
      .LDA .absoluteX 3 (some 0x2001) false 4 ∧
    decodes (given 0x8000 0x00 0x10 false [0xB1, 0x40] [(0x0040, 0xF8), (0x0041, 0x12)])
      .LDA .indirectY 2 (some 0x1308) true 6 ∧
    decodes (given 0x8000 0x00 0x10 false [0xB1, 0x40] [(0x0040, 0x00), (0x0041, 0x12)])
      .LDA .indirectY 2 (some 0x1210) false 5 ∧
    decodes (given 0x8000 0x01 0x00 false [0xA1, 0xFE] [(0x00FF, 0x34), (0x0000, 0x12)])
      .LDA .indirectX 2 (some 0x1234) false 6 ∧
    decodes (given 0x8000 0x00 0x01 false [0xBE, 0xFF, 0x20] [])
      .LDX .absoluteY 3 (some 0x2100) true 5 := by decide

/-- 95_test_vectors Part 3, V-L8 to V-L13. -/
theorem test_decode_load_store_2 :
    decodes (given 0x8000 0xFF 0x01 false [0xB6, 0xFF] [])
      .LDX .zeropageY 2 (some 0x0000) false 4 ∧
    decodes (given 0x8000 0x01 0x00 false [0xBC, 0xFF, 0x20] [])
      .LDY .absoluteX 3 (some 0x2100) true 5 ∧
    decodes (given 0x8000 0x01 0x00 false [0x9D, 0xFF, 0x20] [])
      .STA .absoluteX 3 (some 0x2100) true 5 ∧
    decodes (given 0x8000 0x00 0x10 false [0x91, 0x40] [(0x0040, 0xF8), (0x0041, 0x12)])
      .STA .indirectY 2 (some 0x1308) true 6 ∧
    decodes (given 0x8000 0x00 0x00 false [0x8E, 0x00, 0x02] [])
      .STX .absolute 3 (some 0x0200) false 4 ∧
    decodes (given 0x8000 0x20 0x00 false [0x94, 0xF0] [])
      .STY .zeropageX 2 (some 0x0010) false 4 := by decide

/-- 95_test_vectors Part 3, V-T1 to V-T4. -/
theorem test_decode_transfer_stack :
    decodes (given 0x8000 0x55 0x66 true [0xAA] [])
      .TAX .implied 1 (none) false 2 ∧
    decodes (given 0xFFFF 0x00 0x00 false [0x9A] [])
      .TXS .implied 1 (none) false 2 ∧
    decodes (given 0x8000 0x00 0x00 false [0x48] [])
      .PHA .implied 1 (none) false 3 ∧
    decodes (given 0x8000 0x00 0x00 false [0x28] [])
      .PLP .implied 1 (none) false 4 := by decide

/-- 95_test_vectors Part 3, V-A1 to V-A7. -/
theorem test_decode_alu_1 :
    decodes (given 0x8000 0x00 0x80 false [0x79, 0x80, 0x44] [])
      .ADC .absoluteY 3 (some 0x4500) true 5 ∧
    decodes (given 0x8000 0x00 0x7F false [0x79, 0x80, 0x44] [])
      .ADC .absoluteY 3 (some 0x44FF) false 4 ∧
    decodes (given 0xFFFE 0x00 0x00 false [0xE9, 0x01] [])
      .SBC .immediate 2 (some 0xFFFF) false 2 ∧
    decodes (given 0x8000 0xFF 0x00 false [0x3D, 0x01, 0xFF] [])
      .AND .absoluteX 3 (some 0x0000) true 5 ∧
    decodes (given 0x8000 0x00 0xFF false [0xD1, 0x10] [(0x0010, 0x01), (0x0011, 0x40)])
      .CMP .indirectY 2 (some 0x4100) true 6 ∧
    decodes (given 0x8000 0x00 0x00 false [0xEC, 0x34, 0x12] [])
      .CPX .absolute 3 (some 0x1234) false 4 ∧
    decodes (given 0x8000 0x00 0x00 false [0x24, 0x80] [])
      .BIT .zeropage 2 (some 0x0080) false 3 := by decide

/-- 95_test_vectors Part 3, V-A8 to V-A8. -/
theorem test_decode_alu_2 :
    decodes (given 0x8000 0x90 0x00 false [0x55, 0x80] [])
      .EOR .zeropageX 2 (some 0x0010) false 4 := by decide

/-- 95_test_vectors Part 3, V-S1 to V-S5. -/
theorem test_decode_shift_incdec :
    decodes (given 0x8000 0x00 0x00 false [0x0A] [])
      .ASL .accumulator 1 (none) false 2 ∧
    decodes (given 0x8000 0x01 0x00 false [0x1E, 0xFF, 0x20] [])
      .ASL .absoluteX 3 (some 0x2100) true 7 ∧
    decodes (given 0x8000 0x01 0x00 false [0x7E, 0x00, 0x20] [])
      .ROR .absoluteX 3 (some 0x2001) false 7 ∧
    decodes (given 0x8000 0x02 0x00 false [0xF6, 0xFF] [])
      .INC .zeropageX 2 (some 0x0001) false 6 ∧
    decodes (given 0x8000 0x00 0x00 false [0x88] [])
      .DEY .implied 1 (none) false 2 := by decide

/-- 95_test_vectors Part 3, V-C1 to V-C6. -/
theorem test_decode_control :
    decodes (given 0x8000 0x00 0x00 false [0x4C, 0x00, 0x90] [])
      .JMP .absolute 3 (some 0x9000) false 3 ∧
    decodes (given 0x8000 0x00 0x00 false [0x6C, 0xFF, 0x30] [(0x30FF, 0x80), (0x3000, 0x40)])
      .JMP .indirect 3 (some 0x4080) false 5 ∧
    decodes (given 0xFFFD 0x00 0x00 true [0x20, 0x00, 0x80] [])
      .JSR .absolute 3 (some 0x8000) false 6 ∧
    decodes (given 0x8000 0x00 0x00 true [0x60] [])
      .RTS .implied 1 (none) false 6 ∧
    decodes (given 0x8000 0x00 0x00 false [0x40] [])
      .RTI .implied 1 (none) false 6 ∧
    decodes (given 0x8000 0x00 0x00 false [0x00, 0xFF] [])
      .BRK .implied 1 (none) false 7 := by decide

/-- 95_test_vectors Part 3, V-F1 to V-F3. -/
theorem test_decode_flags_nop :
    decodes (given 0x8000 0x00 0x00 false [0x18] [])
      .CLC .implied 1 (none) false 2 ∧
    decodes (given 0x8000 0x00 0x00 false [0xF8] [])
      .SED .implied 1 (none) false 2 ∧
    decodes (given 0x8000 0x00 0x00 true [0xEA] [])
      .NOP .implied 1 (none) false 2 := by decide

/-- 95_test_vectors Part 3, V-U1 to V-U6. -/
theorem test_decode_undefined :
    faults (given 0x8000 0x00 0x00 false [0x02] []) 0x02 ∧
    faults (given 0x8000 0x01 0x01 true [0xFF] []) 0xFF ∧
    faults (given 0x8000 0x00 0x00 false [0x80, 0x12] []) 0x80 ∧
    faults (given 0x8000 0x00 0x00 false [0xEB, 0x01] []) 0xEB ∧
    faults (given 0x8000 0x00 0x00 false [0x1A] []) 0x1A ∧
    faults (given 0x8000 0x00 0x00 false [0x9E, 0x00, 0x20] []) 0x9E := by decide

/-! ## The Example lines of 41 to 46 -/

/-- The Example lines of 41_load_store. -/
theorem test_example_load_store :
    decodes (given 0x8000 0x01 0x00 false [0xBD, 0xFF, 0x20] [])
      .LDA .absoluteX 3 (some 0x2100) true 5 ∧
    decodes (given 0x8000 0x00 0x05 false [0xBE, 0x00, 0x20] [])
      .LDX .absoluteY 3 (some 0x2005) false 4 ∧
    decodes (given 0x8000 0x20 0x00 false [0xBC, 0xF0, 0x12] [])
      .LDY .absoluteX 3 (some 0x1310) true 5 ∧
    decodes (given 0x8000 0x01 0x00 false [0x9D, 0xFF, 0x20] [])
      .STA .absoluteX 3 (some 0x2100) true 5 ∧
    decodes (given 0x8000 0x00 0x02 false [0x96, 0xFF] [])
      .STX .zeropageY 2 (some 0x0001) false 4 ∧
    decodes (given 0x8000 0x10 0x00 false [0x94, 0x80] [])
      .STY .zeropageX 2 (some 0x0090) false 4 := by decide

/-- The Example lines of 42_transfer_stack. -/
theorem test_example_transfer_stack_1 :
    decodes (given 0x8000 0x00 0x00 false [0xAA] [])
      .TAX .implied 1 (none) false 2 ∧
    decodes (given 0x8000 0x00 0x00 false [0xA8] [])
      .TAY .implied 1 (none) false 2 ∧
    decodes (given 0x8000 0x00 0x00 false [0xBA] [])
      .TSX .implied 1 (none) false 2 ∧
    decodes (given 0x8000 0x00 0x00 false [0x8A] [])
      .TXA .implied 1 (none) false 2 ∧
    decodes (given 0x8000 0x00 0x00 false [0x9A] [])
      .TXS .implied 1 (none) false 2 ∧
    decodes (given 0x8000 0x00 0x00 false [0x98] [])
      .TYA .implied 1 (none) false 2 ∧
    decodes (given 0x8000 0x00 0x00 false [0x48] [])
      .PHA .implied 1 (none) false 3 := by decide

/-- The Example lines of 42_transfer_stack. -/
theorem test_example_transfer_stack_2 :
    decodes (given 0x8000 0x00 0x00 false [0x08] [])
      .PHP .implied 1 (none) false 3 ∧
    decodes (given 0x8000 0x00 0x00 false [0x68] [])
      .PLA .implied 1 (none) false 4 ∧
    decodes (given 0x8000 0x00 0x00 false [0x28] [])
      .PLP .implied 1 (none) false 4 := by decide

/-- The Example lines of 43_alu. -/
theorem test_example_alu_1 :
    decodes (given 0x8000 0x00 0x10 false [0x71, 0x40] [(0x0040, 0xF8), (0x0041, 0x12)])
      .ADC .indirectY 2 (some 0x1308) true 6 ∧
    decodes (given 0x8000 0x00 0x00 false [0xE9, 0x01] [])
      .SBC .immediate 2 (some 0x8001) false 2 ∧
    decodes (given 0x8000 0x00 0x00 false [0x21, 0xFF] [(0x0000, 0x12), (0x00FF, 0x34)])
      .AND .indirectX 2 (some 0x1234) false 6 ∧
    decodes (given 0x8000 0xFF 0x00 false [0x1D, 0x00, 0x30] [])
      .ORA .absoluteX 3 (some 0x30FF) false 4 ∧
    decodes (given 0x8000 0x00 0x80 false [0x59, 0x80, 0x44] [])
      .EOR .absoluteY 3 (some 0x4500) true 5 ∧
    decodes (given 0x8000 0x00 0x00 false [0xD1, 0x10] [(0x0010, 0x00), (0x0011, 0x40)])
      .CMP .indirectY 2 (some 0x4000) false 5 ∧
    decodes (given 0x8000 0x00 0x00 false [0xE4, 0x33] [])
      .CPX .zeropage 2 (some 0x0033) false 3 := by decide

/-- The Example lines of 43_alu. -/
theorem test_example_alu_2 :
    decodes (given 0x8000 0x00 0x00 false [0xCC, 0x34, 0x12] [])
      .CPY .absolute 3 (some 0x1234) false 4 ∧
    decodes (given 0x8000 0x00 0x00 false [0x2C, 0x02, 0x20] [])
      .BIT .absolute 3 (some 0x2002) false 4 := by decide

/-- The Example lines of 44_shift_incdec. -/
theorem test_example_shift_incdec_1 :
    decodes (given 0x8000 0x00 0x00 false [0x0A] [])
      .ASL .accumulator 1 (none) false 2 ∧
    decodes (given 0x8000 0x01 0x00 false [0x5E, 0xFF, 0x00] [])
      .LSR .absoluteX 3 (some 0x0100) true 7 ∧
    decodes (given 0x8000 0x03 0x00 false [0x36, 0xFE] [])
      .ROL .zeropageX 2 (some 0x0001) false 6 ∧
    decodes (given 0x8000 0x00 0x00 false [0x6E, 0x00, 0x02] [])
      .ROR .absolute 3 (some 0x0200) false 6 ∧
    decodes (given 0x8000 0x01 0x00 false [0xFE, 0xFF, 0xFF] [])
      .INC .absoluteX 3 (some 0x0000) true 7 ∧
    decodes (given 0x8000 0x00 0x00 false [0xC6, 0x10] [])
      .DEC .zeropage 2 (some 0x0010) false 5 ∧
    decodes (given 0x8000 0x00 0x00 false [0xE8] [])
      .INX .implied 1 (none) false 2 := by decide

/-- The Example lines of 44_shift_incdec. -/
theorem test_example_shift_incdec_2 :
    decodes (given 0x8000 0x00 0x00 false [0xC8] [])
      .INY .implied 1 (none) false 2 ∧
    decodes (given 0x8000 0x00 0x00 false [0xCA] [])
      .DEX .implied 1 (none) false 2 ∧
    decodes (given 0x8000 0x00 0x00 false [0x88] [])
      .DEY .implied 1 (none) false 2 := by decide

/-- The Example lines of 45_control. -/
theorem test_example_control_1 :
    decodes (given 0x80F0 0x00 0x00 true [0x10, 0x0E] [])
      .BPL .relative 2 (some 0x8100) true 4 ∧
    decodes (given 0x8000 0x00 0x00 true [0x30, 0xFE] [])
      .BMI .relative 2 (some 0x8000) false 3 ∧
    decodes (given 0x8000 0x00 0x00 false [0x50, 0x7F] [])
      .BVC .relative 2 (some 0x8081) false 2 ∧
    decodes (given 0x8000 0x00 0x00 true [0x70, 0x80] [])
      .BVS .relative 2 (some 0x7F82) true 4 ∧
    decodes (given 0xFFFC 0x00 0x00 true [0x90, 0x05] [])
      .BCC .relative 2 (some 0x0003) true 4 ∧
    decodes (given 0x80F0 0x00 0x00 false [0xB0, 0x10] [])
      .BCS .relative 2 (some 0x8102) true 2 ∧
    decodes (given 0x8010 0x00 0x00 true [0xD0, 0xFA] [])
      .BNE .relative 2 (some 0x800C) false 3 := by decide

/-- The Example lines of 45_control. -/
theorem test_example_control_2 :
    decodes (given 0x8000 0x00 0x00 false [0xF0, 0x03] [])
      .BEQ .relative 2 (some 0x8005) false 2 ∧
    decodes (given 0x8000 0x00 0x00 false [0x6C, 0xFF, 0x30] [(0x3000, 0x40), (0x30FF, 0x80), (0x3100, 0x50)])
      .JMP .indirect 3 (some 0x4080) false 5 ∧
    decodes (given 0x8000 0x00 0x00 false [0x20, 0x00, 0x90] [])
      .JSR .absolute 3 (some 0x9000) false 6 ∧
    decodes (given 0x8000 0x00 0x00 false [0x60] [])
      .RTS .implied 1 (none) false 6 ∧
    decodes (given 0x8000 0x00 0x00 false [0x40] [])
      .RTI .implied 1 (none) false 6 ∧
    decodes (given 0x8000 0x00 0x00 false [0x00] [])
      .BRK .implied 1 (none) false 7 := by decide

/-- The Example lines of 46_flags_nop. -/
theorem test_example_flags_nop_1 :
    decodes (given 0x8000 0x00 0x00 false [0x18] [])
      .CLC .implied 1 (none) false 2 ∧
    decodes (given 0x8000 0x00 0x00 false [0x38] [])
      .SEC .implied 1 (none) false 2 ∧
    decodes (given 0x8000 0x00 0x00 false [0x58] [])
      .CLI .implied 1 (none) false 2 ∧
    decodes (given 0x8000 0x00 0x00 false [0x78] [])
      .SEI .implied 1 (none) false 2 ∧
    decodes (given 0x8000 0x00 0x00 false [0xD8] [])
      .CLD .implied 1 (none) false 2 ∧
    decodes (given 0x8000 0x00 0x00 false [0xF8] [])
      .SED .implied 1 (none) false 2 ∧
    decodes (given 0x8000 0x00 0x00 false [0xB8] [])
      .CLV .implied 1 (none) false 2 := by decide

/-- The Example lines of 46_flags_nop. -/
theorem test_example_flags_nop_2 :
    decodes (given 0x8000 0x00 0x00 false [0xEA] [])
      .NOP .implied 1 (none) false 2 := by decide

/-! ## The programs of Part 4, step by step -/

/-- The memory of program P1 (95_test_vectors Part 4). -/
def memP1 : List (Addr × Byte) :=
  [(0x8000, 0xA2), (0x8001, 0x03), (0x8002, 0xCA), (0x8003, 0xD0), (0x8004, 0xFD),
    (0x8005, 0x00)]

/-- The steps of P1, each on its own (95_test_vectors Part 4); a repeated step stands once. -/
theorem test_program_P1 :
    traces (given 0x8000 0x00 0x00 false [] memP1) .LDX .immediate (some 0x8001) false 2 (some 0x8002) ∧
    traces (given 0x8002 0x03 0x00 false [] memP1) .DEX .implied (none) false 2 (some 0x8003) ∧
    traces (given 0x8003 0x02 0x00 true [] memP1) .BNE .relative (some 0x8002) false 3 (some 0x8002) ∧
    traces (given 0x8002 0x02 0x00 false [] memP1) .DEX .implied (none) false 2 (some 0x8003) ∧
    traces (given 0x8003 0x01 0x00 true [] memP1) .BNE .relative (some 0x8002) false 3 (some 0x8002) ∧
    traces (given 0x8002 0x01 0x00 false [] memP1) .DEX .implied (none) false 2 (some 0x8003) ∧
    traces (given 0x8003 0x00 0x00 false [] memP1) .BNE .relative (some 0x8002) false 2 (some 0x8005) ∧
    traces (given 0x8005 0x00 0x00 false [] memP1) .BRK .implied (none) false 7 (none) := by decide

/-- The memory of program P2 (95_test_vectors Part 4). -/
def memP2 : List (Addr × Byte) :=
  [(0x80FC, 0xA2), (0x80FD, 0x02), (0x80FE, 0xCA), (0x80FF, 0xD0), (0x8100, 0xFD),
    (0x8101, 0xEA)]

/-- The steps of P2, each on its own (95_test_vectors Part 4); a repeated step stands once. -/
theorem test_program_P2 :
    traces (given 0x80FC 0x00 0x00 false [] memP2) .LDX .immediate (some 0x80FD) false 2 (some 0x80FE) ∧
    traces (given 0x80FE 0x02 0x00 false [] memP2) .DEX .implied (none) false 2 (some 0x80FF) ∧
    traces (given 0x80FF 0x01 0x00 true [] memP2) .BNE .relative (some 0x80FE) true 4 (some 0x80FE) ∧
    traces (given 0x80FE 0x01 0x00 false [] memP2) .DEX .implied (none) false 2 (some 0x80FF) ∧
    traces (given 0x80FF 0x00 0x00 false [] memP2) .BNE .relative (some 0x80FE) true 2 (some 0x8101) ∧
    traces (given 0x8101 0x00 0x00 false [] memP2)
      .NOP .implied (none) false 2 (some 0x8102) := by decide

/-- The memory of program P3 (95_test_vectors Part 4). -/
def memP3 : List (Addr × Byte) :=
  [(0x8000, 0xA0), (0x8001, 0x10), (0x8002, 0xB1), (0x8003, 0x40), (0x8004, 0x91),
    (0x8005, 0x42), (0x8006, 0x6C), (0x8007, 0xFF), (0x8008, 0x30), (0x9000, 0xEA),
    (0x9001, 0x02), (0x0040, 0xF8), (0x0041, 0x12), (0x0042, 0xF8), (0x0043, 0x20),
    (0x30FF, 0x00), (0x3000, 0x90), (0x3100, 0xA0)]

/-- The steps of P3, each on its own (95_test_vectors Part 4); a repeated step stands once. -/
theorem test_program_P3 :
    traces (given 0x8000 0x00 0x00 false [] memP3) .LDY .immediate (some 0x8001) false 2 (some 0x8002) ∧
    traces (given 0x8002 0x00 0x10 false [] memP3) .LDA .indirectY (some 0x1308) true 6 (some 0x8004) ∧
    traces (given 0x8004 0x00 0x10 false [] memP3) .STA .indirectY (some 0x2108) true 6 (some 0x8006) ∧
    traces (given 0x8006 0x00 0x10 false [] memP3) .JMP .indirect (some 0x9000) false 5 (some 0x9000) ∧
    traces (given 0x9000 0x00 0x10 false [] memP3) .NOP .implied (none) false 2 (some 0x9001) ∧
    faults (given 0x9001 0x00 0x10 false [] memP3) 0x02 := by decide

/-- The memory of program P4 (95_test_vectors Part 4). -/
def memP4 : List (Addr × Byte) :=
  [(0x0600, 0xA2), (0x0601, 0xFF), (0x0602, 0xB5), (0x0603, 0x01), (0x0604, 0x7D),
    (0x0605, 0x01), (0x0606, 0x20), (0x0607, 0x9D), (0x0608, 0x01), (0x0609, 0x20),
    (0x060A, 0xFE), (0x060B, 0x00), (0x060C, 0x03), (0x060D, 0x18), (0x060E, 0x69),
    (0x060F, 0x01), (0x0610, 0x90), (0x0611, 0xF0), (0x0612, 0x60)]

/-- The steps of P4, each on its own (95_test_vectors Part 4); a repeated step stands once. -/
theorem test_program_P4 :
    traces (given 0x0600 0x00 0x00 false [] memP4) .LDX .immediate (some 0x0601) false 2 (some 0x0602) ∧
    traces (given 0x0602 0xFF 0x00 false [] memP4) .LDA .zeropageX (some 0x0000) false 4 (some 0x0604) ∧
    traces (given 0x0604 0xFF 0x00 false [] memP4) .ADC .absoluteX (some 0x2100) true 5 (some 0x0607) ∧
    traces (given 0x0607 0xFF 0x00 false [] memP4) .STA .absoluteX (some 0x2100) true 5 (some 0x060A) ∧
    traces (given 0x060A 0xFF 0x00 false [] memP4) .INC .absoluteX (some 0x03FF) false 7 (some 0x060D) ∧
    traces (given 0x060D 0xFF 0x00 false [] memP4) .CLC .implied (none) false 2 (some 0x060E) ∧
    traces (given 0x060E 0xFF 0x00 false [] memP4) .ADC .immediate (some 0x060F) false 2 (some 0x0610) ∧
    traces (given 0x0610 0xFF 0x00 false [] memP4) .BCC .relative (some 0x0602) false 2 (some 0x0612) ∧
    traces (given 0x0612 0xFF 0x00 false [] memP4) .RTS .implied (none) false 6 (none) := by decide

/-- The memory of program P5 (95_test_vectors Part 4). -/
def memP5 : List (Addr × Byte) :=
  [(0xFFFE, 0xAD), (0xFFFF, 0x34), (0x0000, 0x12), (0x0001, 0x4C), (0x0002, 0xFE),
    (0x0003, 0xFF)]

/-- The steps of P5, each on its own (95_test_vectors Part 4); a repeated step stands once. -/
theorem test_program_P5 :
    traces (given 0xFFFE 0x00 0x00 false [] memP5) .LDA .absolute (some 0x1234) false 4 (some 0x0001) ∧
    traces (given 0x0001 0x00 0x00 false [] memP5)
      .JMP .absolute (some 0xFFFE) false 3 (some 0xFFFE) := by decide

/-! ## The interface: a table word runs as the next instruction -/

/-- `BD FF 20` numbered as the table numbers it: the first byte in bits 7:0. -/
theorem test_decodeTableWord :
    decodeTableWord 24 0x20FFBD = some (.ldaAbsX 0x20FF) ∧ decodeTableWord 8 0xEA = some .nop ∧
    decodeTableWord 8 0x4C = some (.jmpAbs 0x0000) ∧ decodeTableWord 8 0x02 = none := by decide

theorem test_withFetchWord :
    decodes (State.reset.withFetchWord 24 0x20FFBD) .LDA .absoluteX 3 (some 0x20FF) false 4 ∧
    decodes (State.reset.withFetchWord 8 0x60) .RTS .implied 1 none false 6 ∧
    faults (State.reset.withFetchWord 8 0xFF) 0xFF := by decide

/-- The address lines of the reads, in the order of R49: the opcode, the operand, the pointer (R153). -/
theorem test_reads_indirect :
    blockReads 0x8000 0x00 (given 0x8000 0x00 0x00 false [0x6C, 0xFF, 0x30] []).mem =
      [0x8000, 0x8001, 0x8002, 0x30FF, 0x3000] := by decide

theorem test_reads_indirectX_wrap :
    blockReads 0x8000 0x01 (given 0x8000 0x01 0x00 false [0xA1, 0xFE] []).mem =
      [0x8000, 0x8001, 0x00FF, 0x0000] := by decide

/-- The signals of V-L2 (R21, R168): LDA has code 29, AbsoluteX code 2 (R58, R59). -/
theorem test_signals_decoded :
    (given 0x8000 0x01 0x00 false [0xBD, 0xFF, 0x20] []).signals =
      some ⟨false, 0xBD, some 29, some 2, some 3, some 4, some true, some 0x2100, some true, some 5⟩ := by
  decide

/-- With `ERR = 1` only `OPC` is meaningful (R21). -/
theorem test_signals_unknown :
    (given 0x8000 0x00 0x00 false [0x02] []).signals =
      some ⟨true, 0x02, none, none, none, none, none, none, none, none⟩ := by decide

/-- Decoding bytes: the rest comes back; an undefined opcode and missing bytes are rejected by name. -/
theorem test_decodeBytes :
    (match decodeBytes [0xA9, 0x07, 0xEA] with
      | .ok r => r == (.ldaImm 0x07, [0xEA])
      | .error _ => false) = true ∧
    (match decodeBytes [0x02, 0x07] with
      | .ok _ => false
      | .error e => e == .unknownOpcode 0x02) = true ∧
    (match decodeBytes [0xAD, 0x07] with
      | .ok _ => false
      | .error e => e == .truncated 0xAD) = true := by decide

/-! ## Witnesses: states and operands that meet the hypotheses of the obligations -/

/-- A completed evaluation: V-L2. -/
def crossing : Machine.State := given 0x8000 0x01 0x00 false [0xBD, 0xFF, 0x20] []

theorem witness_BranchRowsComplete : (-128 : Int) ≤ -128 ∧ (-128 : Int) ≤ 127 ∧ (-128 : Int) ≤ 127 ∧
    (127 : Int) ≤ 127 := by decide

theorem witness_StepRunsDecodedInstruction :
    decodeInstr (crossing.mem.read crossing.pc) (crossing.mem.read (crossing.pc + 1#16))
      (crossing.mem.read (crossing.pc + 2#16)) = some (.ldaAbsX 0x20FF) := by decide

theorem witness_DecodeOfEncodeIsInstruction :
    (Instr.beq (-128)).wellFormed = true ∧ (Instr.beq 127).wellFormed = true ∧
    (Instr.staAbsX 0xFFFF).wellFormed = true ∧ (Instr.tax).wellFormed = true := by decide

theorem witness_DecodedBytesAreTheEncoding :
    decodeBytes [0x6C, 0xFF, 0x30, 0xEA] = .ok (.jmpInd 0x30FF, [0xEA]) := rfl

/-- Both branches of the decode operation: V-L2, and an undefined opcode value. -/
theorem witness_StepRefinesBlockDecode :
    (match blockDecode 0x8000 0x01 0x00 false crossing.mem with
      | .ok d => d == ⟨0xBD, ⟨.LDA, .absoluteX, 3, 4, .pageCross⟩, some 0x2100, true, 5⟩
      | .error _ => false) = true ∧
    crossing.pc = 0x8000 ∧ crossing.x = 0x01 ∧ crossing.y = 0x00 ∧ crossing.bt = false ∧
    (match blockDecode 0x8000 0x00 0x00 false (given 0x8000 0x00 0x00 false [0x02] []).mem with
      | .ok _ => false
      | .error e => e == .unknownOpcode 0x02) = true := by decide

theorem witness_UndefinedOpcodeFaults :
    faults (given 0x8000 0x00 0x00 false [0x02] []) 0x02 ∧
    faults (given 0xFFFF 0x00 0x00 false [0xFF] []) 0xFF ∧
    (0x02 : Byte) ∈ undefinedOpcodes ∧ (0xFF : Byte) ∈ undefinedOpcodes := by decide

theorem witness_DefinedOpcodeCompletes :
    crossing.mem.read crossing.pc ∉ undefinedOpcodes ∧
    State.reset.mem.read State.reset.pc ∉ undefinedOpcodes ∧
    (given 0x8000 0x00 0x00 false [0x02] []).mem.read 0x8000 ∈ undefinedOpcodes := by decide

theorem witness_ExecFrame : ∃ t, exec (.ldaAbsX 0x20FF) crossing = .next t := ⟨_, rfl⟩

theorem witness_StepIsIdempotent : ∃ t, step crossing = .next t := by
  unfold step
  rw [show crossing.fetched = some (.ldaAbsX 0x20FF) by decide]
  exact ⟨_, rfl⟩

/-- Two states of equal inputs, one with an earlier evaluation's record. -/
theorem witness_OutcomeIgnoresHistory :
    ∃ t, step State.reset = .next t ∧ t.pc = State.reset.pc ∧ t.x = State.reset.x ∧
      t.y = State.reset.y ∧ t.bt = State.reset.bt ∧ t.mem = State.reset.mem ∧ t.out ≠ State.reset.out := by
  unfold step
  rw [show State.reset.fetched = some .brk by decide]
  exact ⟨_, rfl, rfl, rfl, rfl, rfl, rfl, by decide⟩

/-- Two memories that differ at 0x2100, an address the evaluation does not read. -/
theorem witness_OutcomeDependsOnlyOnBytesRead :
    Memory.AgreeOn (blockReads crossing.pc crossing.x crossing.mem) crossing.mem
      (crossing.callerStore 0x2100 0x77).mem ∧
    crossing.mem ≠ (crossing.callerStore 0x2100 0x77).mem := by
  refine ⟨fun a ha => ?_, by decide⟩
  rw [show blockReads crossing.pc crossing.x crossing.mem = [0x8000, 0x8001, 0x8002] by decide] at ha
  simp only [List.mem_cons, List.not_mem_nil, or_false] at ha
  rcases ha with rfl | rfl | rfl <;> decide

/-- The case that faults: memories that differ at 0x8001, beside an undefined opcode value. -/
theorem witness_OutcomeDependsOnlyOnBytesRead_unknown :
    Memory.AgreeOn (blockReads 0x8000 0x00 (given 0x8000 0x00 0x00 false [0x02] []).mem)
      (given 0x8000 0x00 0x00 false [0x02] []).mem
      (given 0x8000 0x00 0x00 false [0x02, 0x77] []).mem ∧
    (given 0x8000 0x00 0x00 false [0x02] []).mem ≠ (given 0x8000 0x00 0x00 false [0x02, 0x77] []).mem ∧
    faults (given 0x8000 0x00 0x00 false [0x02] []) 0x02 ∧
    faults (given 0x8000 0x00 0x00 false [0x02, 0x77] []) 0x02 := by
  refine ⟨fun a ha => ?_, by decide⟩
  rw [show blockReads 0x8000 0x00 (given 0x8000 0x00 0x00 false [0x02] []).mem = [0x8000] by decide] at ha
  simp only [List.mem_cons, List.not_mem_nil, or_false] at ha
  subst ha
  decide

theorem witness_StepKeepsInvariant : crossing.Inv ∧ ∃ t, step crossing = .next t := by
  refine ⟨⟨by decide, fun d h => ?_, by decide⟩, witness_StepIsIdempotent⟩
  exact absurd h (by rw [show crossing.out = none by decide]; exact fun h => by cases h)

/-- The instruction's bytes lie at 0xFFFF, 0x0000 and 0x0001. -/
theorem witness_StoredInstructionRuns :
    (Instr.ldaAbsX 0x20FF).wellFormed = true ∧ (State.reset.present 0xFFFF 0x01 0x00 false).mem.wf = true ∧
    decodes ((State.reset.present 0xFFFF 0x01 0x00 false).storeBytes 0xFFFF
      (encode (.ldaAbsX 0x20FF))) .LDA .absoluteX 3 (some 0x2100) true 5 := by decide

theorem witness_StoredUndefinedOpcodeFaults :
    crossing.mem.wf = true ∧ (0x02 : Byte) ∈ undefinedOpcodes ∧ (0xFF : Byte) ∈ undefinedOpcodes := by
  decide

theorem witness_MemorySnapshotsAreCanonicalLists :
    Memory.wf [(0x0000, 0x01), (0xFFFF, 0x02)] = true ∧
    Memory.wf [(0xFFFF, 0x02), (0x0000, 0x01)] = false ∧ Memory.wf [(0x0000, 0x00)] = false := by decide

theorem witness_LookupReadsRomWord :
    (Rom.word 0x02).extractLsb' 0 1 = 0#1 ∧ (Rom.word 0xFF).extractLsb' 0 1 = 0#1 ∧
    (Rom.word 0x00).extractLsb' 0 1 = 1#1 ∧ (Rom.word 0xFE).extractLsb' 0 1 = 1#1 := by decide

theorem witness_RomWordLayout :
    (0x02 : Byte) ∈ undefinedOpcodes ∧ (0xFF : Byte) ∈ undefinedOpcodes ∧
    (0x00 : Byte) ∉ undefinedOpcodes ∧ (0xFE : Byte) ∉ undefinedOpcodes := by decide

/-- One spec of each class. -/
theorem witness_RomInvariants :
    lookup 0x00 = .ok ⟨.BRK, .implied, 1, 7, .none⟩ ∧
    lookup 0xFD = .ok ⟨.SBC, .absoluteX, 3, 4, .pageCross⟩ ∧
    lookup 0xF0 = .ok ⟨.BEQ, .relative, 2, 2, .branch⟩ := ⟨rfl, rfl, rfl⟩

/-- Both kinds of opcode value, at the ends of their ranges. -/
theorem witness_OpcodeCounts :
    opcodeDefined 0x00 = true ∧ opcodeDefined 0xFE = true ∧ opcodeDefined 0x02 = false ∧
    opcodeDefined 0xFF = false := by decide

theorem witness_BranchClassIsExactlyEight :
    lookup 0x10 = .ok ⟨.BPL, .relative, 2, 2, .branch⟩ ∧
    lookup 0x11 = .ok ⟨.ORA, .indirectY, 2, 5, .pageCross⟩ := ⟨rfl, rfl⟩

theorem witness_PageCrossClassIsExactlyTwentyThree :
    lookup 0x11 = .ok ⟨.ORA, .indirectY, 2, 5, .pageCross⟩ ∧
    lookup 0x9D = .ok ⟨.STA, .absoluteX, 3, 5, .none⟩ := ⟨rfl, rfl⟩

/-- Low bytes that carry by one, and that do not by one. -/
theorem witness_ResolverAbsoluteIndexed :
    resolves .absoluteX 0x8000 0x80 0x00 [(0x8001, 0x80), (0x8002, 0xFF)] (some 0x0000) 2 true ∧
    resolves .absoluteX 0x8000 0x7F 0x00 [(0x8001, 0x80), (0x8002, 0xFF)] (some 0xFFFF) 2 false ∧
    resolves .absoluteY 0x8000 0x00 0x80 [(0x8001, 0x80), (0x8002, 0xFF)] (some 0x0000) 2 true ∧
    resolves .absoluteY 0x8000 0x00 0x7F [(0x8001, 0x80), (0x8002, 0xFF)] (some 0xFFFF) 2 false := by
  decide

/-- A pointer at the end of a page, and beside it on both sides. -/
theorem witness_ResolverIndirectPageWrap :
    (0x30FF : Addr).toNat % 256 = 255 ∧ (0x30FE : Addr).toNat % 256 ≠ 255 ∧
    (0x3000 : Addr).toNat % 256 ≠ 255 ∧
    Expected.wordAt (given 0x8000 0x00 0x00 false [0x6C, 0xFF, 0x30] []).mem 0x8001 0x8002 = 0x30FF := by
  decide

theorem witness_ResolverExtraBytes :
    lookup 0x0A = .ok ⟨.ASL, .accumulator, 1, 2, .none⟩ ∧
    lookup 0x6C = .ok ⟨.JMP, .indirect, 3, 5, .none⟩ := ⟨rfl, rfl⟩

/-- Each clause: a mode that reads neither register, each mode that reads one, and an index that
changes what is resolved. -/
theorem witness_IndexRegistersReadOnlyByTheirModes :
    resolves .absolute 0x8000 0xFF 0xFF [(0x8001, 0x01)] (some 0x0001) 2 false ∧
    resolves .absolute 0x8000 0x00 0x00 [(0x8001, 0x01)] (some 0x0001) 2 false ∧
    resolves .zeropageX 0x8000 0x01 0x00 [(0x8001, 0xFF)] (some 0x0000) 1 false ∧
    resolves .zeropageX 0x8000 0x00 0x00 [(0x8001, 0xFF)] (some 0x00FF) 1 false ∧
    resolves .zeropageY 0x8000 0x00 0x01 [(0x8001, 0xFF)] (some 0x0000) 1 false ∧
    resolves .zeropageY 0x8000 0x00 0x00 [(0x8001, 0xFF)] (some 0x00FF) 1 false ∧
    resolves .indirectX 0x8000 0x01 0x00 [(0x8001, 0xFE), (0x0000, 0x12)] (some 0x1200) 1 false ∧
    resolves .indirectX 0x8000 0x00 0x00 [(0x8001, 0xFE), (0x0000, 0x12)] (some 0x0000) 1 false := by
  decide

/-- Opcodes outside the branch class, a defined and an undefined one. -/
theorem witness_BranchTakenReadOnlyByBranches :
    crossing.mem.read crossing.pc ∉
      ([0x10, 0x30, 0x50, 0x70, 0x90, 0xB0, 0xD0, 0xF0] : List Byte) ∧
    (given 0x8000 0x00 0x00 false [0x12] []).mem.read 0x8000 ∉
      ([0x10, 0x30, 0x50, 0x70, 0x90, 0xB0, 0xD0, 0xF0] : List Byte) := by decide

/-- Records of both kinds: an absent address, and one that is present. -/
theorem witness_AddressAbsentExactly :
    decodes (given 0x8000 0x00 0x00 false [0x0A] []) .ASL .accumulator 1 none false 2 ∧
    decodes (given 0xFFFF 0x00 0x00 false [0xA9] []) .LDA .immediate 2 (some 0x0000) false 2 := by decide

/-- A crossing in each of the four modes, and the first and last of them in the list. -/
theorem witness_PageCrossingOnlyInFourModes :
    resolves .absoluteX 0x8000 0x01 0x00 [(0x8001, 0xFF)] (some 0x0100) 2 true ∧
    resolves .absoluteY 0x8000 0x00 0x01 [(0x8001, 0xFF)] (some 0x0100) 2 true ∧
    resolves .indirectY 0x8000 0x00 0x01 [(0x8001, 0x40), (0x0040, 0xFF)] (some 0x0100) 1 true ∧
    resolves .relative 0x80F0 0x00 0x00 [(0x80F1, 0x0E)] (some 0x8100) 1 true := by decide

/-- A completed step of each class with its extras, and without. -/
theorem witness_CycleTotalRule :
    decodes (given 0x80F0 0x00 0x00 true [0xF0, 0x0E] []) .BEQ .relative 2 (some 0x8100) true 4 ∧
    decodes (given 0x80F0 0x00 0x00 true [0xF0, 0x0D] []) .BEQ .relative 2 (some 0x80FF) false 3 ∧
    decodes (given 0x80F0 0x00 0x00 false [0xF0, 0x0E] []) .BEQ .relative 2 (some 0x8100) true 2 ∧
    decodes crossing .LDA .absoluteX 3 (some 0x2100) true 5 ∧
    decodes (given 0x8000 0x01 0x00 false [0x9D, 0xFF, 0x20] []) .STA .absoluteX 3 (some 0x2100) true 5 := by
  decide

/-- The ends of each range. -/
theorem witness_CycleTotalRange :
    decodes (given 0x8000 0x00 0x00 false [0xEA] []) .NOP .implied 1 none false 2 ∧
    decodes (given 0x8000 0x00 0x00 false [0x00] []) .BRK .implied 1 none false 7 ∧
    decodes (given 0x8000 0x00 0x00 false [0xBD] []) .LDA .absoluteX 3 (some 0x0000) false 4 ∧
    decodes crossing .LDA .absoluteX 3 (some 0x2100) true 5 ∧
    decodes (given 0x8000 0x00 0x01 false [0xB1, 0x40] [(0x0040, 0xFF)]) .LDA .indirectY 2 (some 0x0100)
      true 6 ∧
    decodes (given 0x8000 0x00 0x00 false [0xB1, 0x40] [(0x0040, 0xFF)]) .LDA .indirectY 2 (some 0x00FF)
      false 5 := by decide

theorem witness_ReadsPerEvaluation :
    (given 0x8000 0x00 0x00 false [0x02] []).mem.read 0x8000 ∈ undefinedOpcodes ∧
    decodes (given 0x8000 0x00 0x00 false [0x6C, 0xFF, 0x30] []) .JMP .indirect 3 (some 0x0000) false 5 := by
  decide

/-- ADC and SBC share mode, size, base cycles and class. -/
theorem witness_MnemonicIsDescriptive :
    lookup 0x7D = .ok ⟨.ADC, .absoluteX, 3, 4, .pageCross⟩ ∧
    lookup 0xFD = .ok ⟨.SBC, .absoluteX, 3, 4, .pageCross⟩ := ⟨rfl, rfl⟩

theorem witness_SignalsCarryTheOutputs :
    decodes crossing .LDA .absoluteX 3 (some 0x2100) true 5 ∧
    faults (given 0x8000 0x00 0x00 false [0x02] []) 0x02 := by decide

/-- The next sequential PC wraps from 0xFFFE to 0x0001 (P5). -/
theorem witness_NextSequentialPcFollowsTheInstruction :
    (given 0xFFFE 0x00 0x00 false [0xAD, 0x34, 0x12] []).fetched = some (.ldaAbs 0x1234) := by decide

end Sys2Proof.Tests
end

section
/-!
PROOFS. The counts of the opcode values (R7, R64) and the one spec of a defined value (R71). The list of
R64 rises strictly, so it repeats nothing, and it holds exactly the values with `V = 0`; both counts
follow from its length.
-/
namespace Sys2Proof.Machine

/-- Lookup answers `UnknownOpcode` exactly at the opcode values with `V = 0` (R69). -/
theorem lookup_eq_unknownOpcode_iff (op : Byte) :
    lookup op = .error (.unknownOpcode op) ↔ opcodeDefined op = false := by
  unfold lookup opcodeDefined
  obtain hv | hv := (Rom.vField (Rom.word op)).eq_zero_or_eq_one
  · simp [hv]
  · rw [hv, if_neg (by decide)]
    split <;> simp

/-- The list of R64 holds exactly the opcode values with `V = 0`. -/
theorem mem_undefinedOpcodes_iff (op : Byte) :
    op ∈ undefinedOpcodes ↔ opcodeDefined op = false := by
  rw [← lookup_eq_unknownOpcode_iff]
  constructor
  · exact lookup_of_undefined op
  · intro herror
    by_contra hmem
    obtain ⟨spec, hspec⟩ := lookup_of_defined op hmem
    rw [herror] at hspec
    cases hspec

/-- The list of R64 has no repeat: its values rise strictly. -/
theorem undefinedOpcodes_nodup : undefinedOpcodes.Nodup := by
  have hrises : undefinedOpcodes.Pairwise (· < ·) := by decide
  exact hrises.imp BitVec.ne_of_lt

/-- The byte values with `V = 0`, as numbers, are the list of R64 in some order. -/
theorem filter_undefined_perm :
    ((List.range 256).filter fun n => !opcodeDefined (BitVec.ofNat 8 n)).Perm
      (undefinedOpcodes.map BitVec.toNat) := by
  rw [List.perm_ext_iff_of_nodup (List.nodup_range.filter _)
    (undefinedOpcodes_nodup.map fun _ _ => BitVec.eq_of_toNat_eq)]
  intro n
  simp only [List.mem_filter, List.mem_range, List.mem_map, Bool.not_eq_true',
    ← mem_undefinedOpcodes_iff]
  constructor
  · rintro ⟨hn, hmem⟩
    exact ⟨_, hmem, (BitVec.toNat_ofNat n 8).trans (Nat.mod_eq_of_lt hn)⟩
  · rintro ⟨op, hmem, rfl⟩
    exact ⟨op.isLt, by simpa using hmem⟩

/-- R7, R64: 105 opcode values have `V = 0`. -/
theorem length_filter_undefined :
    ((List.range 256).filter fun n => !opcodeDefined (BitVec.ofNat 8 n)).length =
      Config.opcodesUndefined := by
  rw [filter_undefined_perm.length_eq, List.length_map]
  rfl

/-- R7: the other 151 opcode values have `V = 1`. -/
theorem length_filter_defined :
    ((List.range 256).filter fun n => opcodeDefined (BitVec.ofNat 8 n)).length =
      Config.opcodesDefined := by
  have hsplit := (List.range 256).length_eq_length_filter_add
    fun n => opcodeDefined (BitVec.ofNat 8 n)
  rw [length_filter_undefined, List.length_range] at hsplit
  simp only [Config.opcodesUndefined, Config.opcodesDefined] at hsplit ⊢
  omega

/-- Settles O28: the counts follow from the list of R64, the spec of a value from its ROM word's `V`. -/
theorem opcodeCounts : Obligations.OpcodeCounts := by
  refine ⟨length_filter_defined, length_filter_undefined, rfl, undefinedOpcodes_nodup,
    mem_undefinedOpcodes_iff, fun op => ⟨fun hdefined => ?_, fun hundefined spec hspec => ?_⟩⟩
  · have hmem : op ∉ undefinedOpcodes := by simp [mem_undefinedOpcodes_iff, hdefined]
    obtain ⟨spec, hspec⟩ := lookup_of_defined op hmem
    refine ⟨spec, hspec, fun spec' hspec' => ?_⟩
    rw [hspec] at hspec'
    exact (Except.ok.inj hspec').symm
  · rw [(lookup_eq_unknownOpcode_iff op).mpr hundefined] at hspec
    cases hspec

end Sys2Proof.Machine
end

section
/-!
PROOFS. The frame of an instruction (R15, R170), and what one step does in terms of the raw memory: at an
undefined opcode value it faults (R171), at every other it records what `blockDecode` answers and the
reads of `blockReads` (R157, R163). The operand the decoder hands on is the bytes the mode uses, so the
detour over the decoded instruction changes nothing. What a step reads of its inputs follows from that.
-/
namespace Sys2Proof.Machine

/-- Settles O15: an instruction that completes has latched its record and reads, nothing else. -/
theorem execFrame : Obligations.ExecFrame := by
  intro i s t hexec
  obtain ⟨spec, -, rfl⟩ := exec_next_cases hexec
  simp

/-- The resolver answers and reads for a decoded operand what it does for the bytes after the opcode,
whenever the mode has as many operand bytes as the operand (R52, R151). -/
theorem resolveWith_decoded_operand {op b1 b2 : Byte} {i : Instr} {mode : Mode}
    (hdecode : decodeInstr op b1 b2 = some i) (hlength : i.operand.bytes.length = extraBytes mode)
    (pc : Addr) (x y : Byte) (m : Memory) :
    resolveWith mode i.operand.first i.operand.second pc x y m = resolveWith mode b1 b2 pc x y m ∧
      resolverReads mode i.operand.first i.operand.second pc x = resolverReads mode b1 b2 pc x := by
  obtain ⟨-, -, hnone | ⟨hbytes, hfirst⟩ | ⟨-, hfirst, hsecond⟩⟩ := decodeInstr_cases hdecode
  · rw [hnone] at hlength
    exact resolveWith_of_no_byte hlength.symm _ _ _ _ _ _ _ _
  · rw [hbytes] at hlength
    rw [hfirst]
    exact resolveWith_of_one_byte hlength.ge _ _ _ _ _ _ _
  · rw [hfirst, hsecond]
    exact ⟨rfl, rfl⟩

/-- A step at a state where an instruction stands at `PC`: lookup answers a spec whose size is the
length of the instruction, and the step records what the resolver answers over the raw memory (R157). -/
theorem step_of_fetched {s : State} {i : Instr} (hfetched : s.fetched = some i) :
    ∃ spec, lookup (s.mem.read s.pc) = .ok spec ∧ spec.size = (encode i).length ∧
      step s = .next (s.latch
        (decodedRecord (s.mem.read s.pc) spec (resolve spec.mode s.pc s.x s.y s.mem) s.bt)
        (blockReads s.pc s.x s.mem)) := by
  obtain ⟨spec, hlookup, hsize, hmode⟩ := Laws.rom_size_of_every i
  have hlength : i.operand.bytes.length = extraBytes spec.mode := by
    simp only [encode, List.length_cons] at hsize
    omega
  obtain ⟨hresolve, hreads⟩ :=
    resolveWith_decoded_operand hfetched hlength s.pc s.x s.y s.mem
  have hstep : step s = exec i s := by
    unfold step
    rw [hfetched]
  rw [decodeInstr_opcode hfetched] at hlookup
  refine ⟨spec, hlookup, hsize, ?_⟩
  rw [hstep, exec_eq_evaluate, decodeInstr_opcode hfetched, evaluate_of_lookup hlookup, hresolve,
    hreads]
  unfold blockReads
  rw [hlookup]
  rfl

/-- A step at an undefined opcode value faults (R171). -/
theorem step_of_undefined {s : State} (hop : s.mem.read s.pc ∈ undefinedOpcodes) :
    step s = .fault (.unknownOpcode (s.mem.read s.pc)) := by
  have hfetched : s.fetched = none := (decodeInstr_eq_none_iff _ _ _).mpr hop
  unfold step
  rw [hfetched]
  rfl

/-- A step at an opcode value that lookup answers a spec for records the outputs and the reads of the
evaluation over the raw memory (R157, R163). -/
theorem step_of_lookup {s : State} {spec : InstructionSpec}
    (hlookup : lookup (s.mem.read s.pc) = .ok spec) :
    step s = .next (s.latch
      (decodedRecord (s.mem.read s.pc) spec (resolve spec.mode s.pc s.x s.y s.mem) s.bt)
      (blockReads s.pc s.x s.mem)) := by
  cases hfetched : s.fetched with
  | none =>
    rw [lookup_of_undefined _ ((decodeInstr_eq_none_iff _ _ _).mp hfetched)] at hlookup
    cases hlookup
  | some i =>
    obtain ⟨spec', hlookup', -, hstep⟩ := step_of_fetched hfetched
    rw [hlookup] at hlookup'
    cases hlookup'
    exact hstep

/-- A step that completes has found a spec for the opcode value at `PC`. -/
theorem lookup_of_step_next {s t : State} (hstep : step s = .next t) :
    ∃ spec, lookup (s.mem.read s.pc) = .ok spec := by
  refine lookup_of_defined _ fun hop => ?_
  rw [step_of_undefined hop] at hstep
  cases hstep

/-- A step that faults has met an undefined opcode value at `PC`, and names it. -/
theorem step_fault_cases {s : State} {op : Byte} (hstep : step s = .fault (.unknownOpcode op)) :
    op = s.mem.read s.pc ∧ s.mem.read s.pc ∈ undefinedOpcodes := by
  by_cases hop : s.mem.read s.pc ∈ undefinedOpcodes
  · rw [step_of_undefined hop] at hstep
    cases hstep
    exact ⟨rfl, hop⟩
  · obtain ⟨spec, hlookup⟩ := lookup_of_defined _ hop
    rw [step_of_lookup hlookup] at hstep
    cases hstep

/-- Settles O17: the outcome is written in the inputs and the memory alone. -/
theorem outcomeIgnoresHistory : Obligations.OutcomeIgnoresHistory := by
  rintro s ⟨pc, x, y, bt, mem, out, reads⟩ rfl rfl rfl rfl rfl
  by_cases hop : s.mem.read s.pc ∈ undefinedOpcodes
  · exact .inl ⟨_, step_of_undefined hop, step_of_undefined hop⟩
  · obtain ⟨spec, hlookup⟩ := lookup_of_defined _ hop
    exact .inr ⟨_, step_of_lookup hlookup, step_of_lookup hlookup⟩

/-- The opcode values of the conditional branches (R74). -/
def branchOpcodes : List Byte := [0x10#8, 0x30#8, 0x50#8, 0x70#8, 0x90#8, 0xB0#8, 0xD0#8, 0xF0#8]

/-- The ROM gives the branch class to no other opcode value (R78). -/
theorem mem_branchOpcodes_of_branch {op : Byte} {spec : InstructionSpec}
    (hlookup : lookup op = .ok spec) (hbranch : spec.cls = .branch) : op ∈ branchOpcodes :=
  of_decide_eq_true (lookup_forall
    (P := fun op spec => decide (spec.cls = .branch → op ∈ branchOpcodes)) (by decide)
    op spec hlookup) hbranch

/-- Outside the branch class `BT` decides no cycle (R19, R160). -/
theorem totalCycles_of_not_branch {spec : InstructionSpec} (h : spec.cls ≠ .branch)
    (bt bt' px : Bool) : totalCycles spec bt px = totalCycles spec bt' px := by
  unfold totalCycles
  cases hcls : spec.cls with
  | branch => exact absurd hcls h
  | none => rfl
  | pageCross => rfl

/-- Settles O40: `BT` reaches the record through the cycle total alone, and there through the branch
class alone. -/
theorem branchTakenReadOnlyByBranches : Obligations.BranchTakenReadOnlyByBranches := by
  intro s bt hnotBranch
  by_cases hop : s.mem.read s.pc ∈ undefinedOpcodes
  · exact .inl ⟨_, step_of_undefined hop, step_of_undefined hop⟩
  · obtain ⟨spec, hlookup⟩ := lookup_of_defined _ hop
    have hcls : spec.cls ≠ .branch := fun hbranch =>
      hnotBranch (mem_branchOpcodes_of_branch hlookup hbranch)
    have hrecord (r : Resolution) : decodedRecord (s.mem.read s.pc) spec r bt =
        decodedRecord (s.mem.read s.pc) spec r s.bt := by
      unfold decodedRecord
      rw [totalCycles_of_not_branch hcls bt s.bt]
    refine .inr ⟨_, step_of_lookup hlookup, ?_⟩
    rw [step_of_lookup (s := { s with bt := bt }) hlookup, hrecord]
    rfl

/-- Settles O48: the recorded size is the length of the fetched instruction, and the sum wraps. -/
theorem nextSequentialPcFollowsTheInstruction :
    Obligations.NextSequentialPcFollowsTheInstruction := by
  intro s i hfetched
  obtain ⟨spec, -, hsize, hstep⟩ := step_of_fetched hfetched
  refine ⟨_, _, hstep, rfl, hsize, ?_⟩
  simp only [nextSequentialPc, decodedRecord, hsize, BitVec.ofNat_add, BitVec.ofNat_toNat,
    BitVec.setWidth_eq]

end Sys2Proof.Machine
end

section
/-!
PROOFS. The output signals (R21, R168): every number of the record fits the width of its signal, so the
signal carries it without loss.
-/
namespace Sys2Proof.Machine

/-- The signals at an opcode value that lookup answers a spec for (R168). -/
theorem signals_of_lookup {s : State} {spec : InstructionSpec}
    (hlookup : lookup (s.mem.read s.pc) = .ok spec) :
    s.signals = some (.ofDecoded
      (decodedRecord (s.mem.read s.pc) spec (resolve spec.mode s.pc s.x s.y s.mem) s.bt)) := by
  simp only [State.signals, blockDecode, hlookup]

/-- The signals at an undefined opcode value (R168, R171). -/
theorem signals_of_undefined {s : State} (hop : s.mem.read s.pc ∈ undefinedOpcodes) :
    s.signals = some (.ofUnknownOpcode (s.mem.read s.pc)) := by
  simp only [State.signals, blockDecode, lookup_of_undefined _ hop]

/-- The mnemonic codes fit the 6 bits of `MNEM` (R59). -/
theorem mnemonicCode_lt (mn : Mnemonic) : mnemonicCode mn < 2 ^ 6 := by
  cases mn <;> decide

/-- The mode codes fit the 4 bits of `MODE` (R58). -/
theorem modeCode_lt (mode : Mode) : modeCode mode < 2 ^ 4 := by
  cases mode <;> decide

/-- The size, the base count and every total fit the 2, 3 and 3 bits of their signals (R66, R163,
R167). -/
theorem lookup_fits_signals {op : Byte} {spec : InstructionSpec} (hlookup : lookup op = .ok spec) :
    spec.size < 2 ^ 2 ∧ spec.baseCycles < 2 ^ 3 ∧ ∀ bt px, totalCycles spec bt px < 2 ^ 3 :=
  of_decide_eq_true (lookup_forall
    (P := fun _ spec => decide (spec.size < 2 ^ 2 ∧ spec.baseCycles < 2 ^ 3 ∧
      ∀ bt px, totalCycles spec bt px < 2 ^ 3)) (by decide) op spec hlookup)

/-- A number that fits a width comes back from it. -/
theorem map_toNat_ofNat {w n : Nat} (h : n < 2 ^ w) :
    (some (BitVec.ofNat w n)).map BitVec.toNat = some n := by
  rw [Option.map_some, BitVec.toNat_ofNat, Nat.mod_eq_of_lt h]

/-- Settles O47: the signals and the step's record are both of the one decoded record, whose numbers
fit their widths. -/
theorem signalsCarryTheOutputs : Obligations.SignalsCarryTheOutputs := by
  refine fun s => ⟨fun t d hstep hout => ?_, fun op hstep => ?_⟩
  · obtain ⟨spec, hlookup⟩ := lookup_of_step_next hstep
    rw [step_of_lookup hlookup] at hstep
    cases hstep
    cases hout
    obtain ⟨hsize, hbase, htotal⟩ := lookup_fits_signals hlookup
    exact ⟨_, signals_of_lookup hlookup, rfl, rfl, map_toNat_ofNat (mnemonicCode_lt _),
      map_toNat_ofNat (modeCode_lt _), map_toNat_ofNat hsize, map_toNat_ofNat hbase, rfl, rfl, rfl,
      map_toNat_ofNat (htotal _ _)⟩
  · obtain ⟨rfl, hop⟩ := step_fault_cases hstep
    exact signals_of_undefined hop

end Sys2Proof.Machine
end

section
/-!
PROOFS. Memory snapshots as canonical lists (R20, R51): a canonical list is determined by what it
answers, and every total function is answered by one, built by a put at each address in turn.
-/
namespace Sys2Proof.Machine

theorem Memory.wfFrom_cons_iff {lo k : Nat} {v : Byte} {m : Memory} :
    Memory.wfFrom lo ((k, v) :: m) = true ↔
      lo ≤ k ∧ k < Config.addressSpace ∧ v ≠ Config.unlistedByte ∧
        Memory.wfFrom (k + 1) m = true := by
  simp [Memory.wfFrom, and_assoc]

/-- An address whose byte is not that of an unlisted one is at least the lower bound. -/
theorem Memory.le_of_find_ne {m : Memory} {lo a : Nat} (h : Memory.wfFrom lo m = true)
    (ha : Memory.find m a ≠ Config.unlistedByte) : lo ≤ a :=
  not_lt.mp fun hlt => ha (Memory.find_below h hlt)

/-- The first listed address is at most the first listed address of any memory that answers alike. -/
theorem Memory.head_le_head {lo k k' : Nat} {v v' : Byte} {m m' : Memory}
    (h : Memory.wfFrom lo ((k, v) :: m) = true) (h' : Memory.wfFrom lo ((k', v') :: m') = true)
    (hfind : Memory.find ((k, v) :: m) k' = Memory.find ((k', v') :: m') k') : k ≤ k' := by
  obtain ⟨-, hk, hv, htail⟩ := Memory.wfFrom_cons_iff.mp h
  obtain ⟨-, -, hv', -⟩ := Memory.wfFrom_cons_iff.mp h'
  have hwf : Memory.wfFrom k ((k, v) :: m) = true :=
    Memory.wfFrom_cons_iff.mpr ⟨le_rfl, hk, hv, htail⟩
  refine Memory.le_of_find_ne hwf ?_
  rwa [hfind, Memory.find_cons, if_pos rfl]

/-- Canonical memories that answer alike in the whole address space are the same list. -/
theorem Memory.eq_of_find_eq {m m' : Memory} {lo : Nat} (h : Memory.wfFrom lo m = true)
    (h' : Memory.wfFrom lo m' = true)
    (hfind : ∀ a < Config.addressSpace, Memory.find m a = Memory.find m' a) : m = m' := by
  induction m generalizing m' lo with
  | nil =>
    cases m' with
    | nil => rfl
    | cons c' m' =>
      obtain ⟨-, hk', hv', -⟩ := Memory.wfFrom_cons_iff.mp h'
      have hhead := hfind c'.1 hk'
      rw [Memory.find_cons, if_pos rfl] at hhead
      exact absurd hhead.symm hv'
  | cons c m ih =>
    obtain ⟨k, v⟩ := c
    obtain ⟨-, hk, hv, htail⟩ := Memory.wfFrom_cons_iff.mp h
    cases m' with
    | nil =>
      have hhead := hfind k hk
      rw [Memory.find_cons, if_pos rfl] at hhead
      exact absurd hhead hv
    | cons c' m' =>
      obtain ⟨k', v'⟩ := c'
      obtain ⟨-, hk', -, htail'⟩ := Memory.wfFrom_cons_iff.mp h'
      obtain rfl : k = k' := le_antisymm (Memory.head_le_head h h' (hfind k' hk'))
        (Memory.head_le_head h' h (hfind k hk).symm)
      have hvv : v = v' := by simpa [Memory.find_cons] using hfind k hk
      have hmm : m = m' := ih htail htail' fun a ha => by
        by_cases hka : k = a
        · rw [Memory.find_below htail (by omega), Memory.find_below htail' (by omega)]
        · simpa [Memory.find_cons, hka] using hfind a ha
      rw [hvv, hmm]

/-- The memory that answers as `f` at the address numbers below `n`, and lists nothing from `n` on. -/
def Memory.ofFunction (f : Nat → Byte) : Nat → Memory
  | 0 => []
  | n + 1 => Memory.put (Memory.ofFunction f n) n (f n)

theorem Memory.ofFunction_wf (f : Nat → Byte) {n : Nat} (hn : n ≤ Config.addressSpace) :
    (Memory.ofFunction f n).wf = true := by
  induction n with
  | zero => rfl
  | succ n ih => exact Memory.put_wfFrom (ih (by omega)) _ (Nat.zero_le _) hn

theorem Memory.find_ofFunction (f : Nat → Byte) {n a : Nat} (hn : n ≤ Config.addressSpace)
    (ha : a < n) : Memory.find (Memory.ofFunction f n) a = f a := by
  induction n with
  | zero => omega
  | succ n ih =>
    have hwf : Memory.wfFrom 0 (Memory.ofFunction f n) = true := Memory.ofFunction_wf f (by omega)
    rw [Memory.ofFunction, Memory.find_put hwf]
    split
    · next hna => rw [hna]
    · exact ih (by omega) (by omega)

/-- Settles O24: a put at each address builds the memory of a function, and what it answers determines
its list. -/
theorem memorySnapshotsAreCanonicalLists : Obligations.MemorySnapshotsAreCanonicalLists := by
  refine fun f => ⟨⟨.ofFunction (fun n => f (BitVec.ofNat 16 n)) Config.addressSpace,
    Memory.ofFunction_wf _ le_rfl, fun a => ?_⟩, fun m m' hwf hwf' hread hread' => ?_⟩
  · rw [Memory.read, Memory.find_ofFunction _ le_rfl (Addr.toNat_lt_addressSpace a),
      BitVec.ofNat_toNat, BitVec.setWidth_eq]
  · refine Memory.eq_of_find_eq hwf hwf' fun a ha => ?_
    have hagree := (hread (BitVec.ofNat 16 a)).trans (hread' (BitVec.ofNat 16 a)).symm
    rwa [Memory.read, Memory.read, BitVec.toNat_ofNat, Nat.mod_eq_of_lt (show a < 2 ^ 16 from ha)]
      at hagree

end Sys2Proof.Machine
end

section
/-!
PROOFS. Which index register a mode reads (R18). In the modes that add an index to an address the sum
tells two values of it apart; in IndirectX the pointed-to word does, over a memory of one listed byte.
-/
namespace Sys2Proof.Machine

/-- Two zero-page addresses are the same exactly when their bytes are (R42). -/
theorem zeroPage_inj {b b' : Byte} : zeroPage b = zeroPage b' ↔ b = b' := by
  rw [← BitVec.toNat_inj, ← BitVec.toNat_inj, zeroPage, zeroPage, BitVec.toNat_setWidth,
    BitVec.toNat_setWidth]
  omega

/-- An index added to a base, modulo 2^16, is told by the sum (R145). -/
theorem indexed_inj {extra : Nat} {base : Addr} {b b' : Byte} :
    indexed extra base b = indexed extra base b' ↔ b = b' := by
  refine ⟨fun heq => ?_, fun heq => by rw [heq]⟩
  have hea : some (base + zeroPage b) = some (base + zeroPage b') := congrArg Resolution.ea heq
  exact zeroPage_inj.mp (BitVec.add_right_inj base |>.mp (Option.some.inj hea))

/-- A zero-page indexed resolution tells its index (R142, R143). -/
theorem zeroPageIndexed_inj {b i i' : Byte} {extra : Nat} {px : Bool} :
    (Resolution.mk (some (zeroPage (b + i))) extra px = ⟨some (zeroPage (b + i')), extra, px⟩) ↔
      i = i' := by
  simp [zeroPage_inj]

theorem resolve_ignores_x {mode : Mode} (hzp : mode ≠ .zeropageX) (habs : mode ≠ .absoluteX)
    (hind : mode ≠ .indirectX) (pc : Addr) (x x' y : Byte) (m : Memory) :
    resolve mode pc x y m = resolve mode pc x' y m := by
  cases mode with
  | zeropageX | absoluteX | indirectX => contradiction
  | _ => rfl

theorem resolve_ignores_y {mode : Mode} (hzp : mode ≠ .zeropageY) (habs : mode ≠ .absoluteY)
    (hind : mode ≠ .indirectY) (pc : Addr) (x y y' : Byte) (m : Memory) :
    resolve mode pc x y m = resolve mode pc x y' m := by
  cases mode with
  | zeropageY | absoluteY | indirectY => contradiction
  | _ => rfl

theorem resolve_tells_x {mode : Mode} (hmode : mode = .zeropageX ∨ mode = .absoluteX) (pc : Addr)
    (x x' y : Byte) (m : Memory) : resolve mode pc x y m = resolve mode pc x' y m ↔ x = x' := by
  obtain rfl | rfl := hmode
  · exact zeroPageIndexed_inj
  · exact indexed_inj

theorem resolve_tells_y {mode : Mode}
    (hmode : mode = .zeropageY ∨ mode = .absoluteY ∨ mode = .indirectY) (pc : Addr)
    (x y y' : Byte) (m : Memory) : resolve mode pc x y m = resolve mode pc x y' m ↔ y = y' := by
  obtain rfl | rfl | rfl := hmode
  · exact zeroPageIndexed_inj
  · exact indexed_inj
  · exact indexed_inj

/-- Over the memory whose one listed byte is 1 at address 1, IndirectX tells X = 0 from X = 1 at every
`PC`: the pointer byte is 1 where it is that byte itself, and 0 everywhere else. -/
theorem resolve_indirectX_tells_x (pc : Addr) (y : Byte) :
    resolve .indirectX pc 0#8 y [(1, 1#8)] ≠ resolve .indirectX pc 1#8 y [(1, 1#8)] := by
  intro heq
  have hword : zeroPageWord [(1, 1#8)] (Memory.read [(1, 1#8)] (pc + 1#16) + 0#8) =
      zeroPageWord [(1, 1#8)] (Memory.read [(1, 1#8)] (pc + 1#16) + 1#8) :=
    Option.some.inj (congrArg Resolution.ea heq)
  rw [Memory.read, Memory.find_cons] at hword
  split at hword
  · exact absurd hword (by decide)
  · rw [Memory.find_nil] at hword
    exact absurd hword (by decide)

/-- Settles O39, mode by mode. -/
theorem indexRegistersReadOnlyByTheirModes : Obligations.IndexRegistersReadOnlyByTheirModes := by
  intro mode pc x x' y y' m
  refine ⟨fun hzp habs hind => resolve_ignores_x hzp habs hind pc x x' y m,
    fun hzp habs hind => resolve_ignores_y hzp habs hind pc x y y' m,
    fun hmode => resolve_tells_x hmode pc x x' y m,
    fun hmode => resolve_tells_y hmode pc x y y' m, ?_⟩
  rintro rfl
  exact ⟨_, resolve_indirectX_tells_x pc y⟩

end Sys2Proof.Machine
end

section
/-!
PROOFS. The caller's stores and the fetch (R24, R47, R191). The bytes a caller stores are read back
whatever address they begin at, wrapping included; bytes that begin with the encoding of a well-formed
instruction are fetched as that instruction.
-/
namespace Sys2Proof

/-- The operand of the same kind as `o` that the bytes after the opcode hold (R53, R56). -/
def Operand.heldBy (b1 b2 : Byte) : Operand → Operand
  | .none => .none
  | .byte _ => .byte b1
  | .offset _ => .offset b1.toInt
  | .word _ => .word (word16 b1 b2)

/-- An operand that fits is the one its own bytes hold. -/
theorem Operand.heldBy_of_bytes_prefix {o : Operand} {b1 b2 : Byte} (hfits : o.fits = true)
    (hbytes : o.bytes <+: [b1, b2]) : o.heldBy b1 b2 = o := by
  cases o with
  | none => rfl
  | byte b =>
    obtain rfl : b = b1 := by simpa [bytes] using hbytes
    rfl
  | offset off =>
    obtain rfl : BitVec.ofInt 8 off = b1 := by simpa [bytes] using hbytes
    rw [heldBy, ofInt_toInt_of_fits hfits]
  | word w =>
    obtain ⟨rfl, rfl⟩ : lo8 w = b1 ∧ hi8 w = b2 := by simpa [bytes] using hbytes
    rw [heldBy, word16_lo8_hi8]

/-- The decoder answers the instruction whose opcode it is given, its operand the one that the bytes
hold: the map of R63 names each constructor at its opcode. -/
theorem decodeInstr_of_heldBy {i : Instr} {b1 b2 : Byte} (h : i.operand.heldBy b1 b2 = i.operand) :
    decodeInstr i.opcode b1 b2 = some i := by
  cases i
  all_goals
    cases h
    simp only [Instr.opcode]
    rfl

/-- Bytes that begin with the encoding of a well-formed instruction decode to it. -/
theorem decodeInstr_of_encode_prefix {i : Instr} {op b1 b2 : Byte} (hwf : i.wellFormed = true)
    (hbytes : encode i <+: [op, b1, b2]) : decodeInstr op b1 b2 = some i := by
  obtain ⟨rfl, hoperand⟩ := List.cons_prefix_cons.mp hbytes
  exact decodeInstr_of_heldBy (Operand.heldBy_of_bytes_prefix hwf hoperand)

theorem encode_length_le (i : Instr) : (encode i).length ≤ 3 := by
  obtain hnone | hone | htwo := i.operand.bytes_cases
  · simp [encode, hnone, Operand.bytes]
  · simp [encode, hone]
  · simp [encode, htwo]

end Sys2Proof

namespace Sys2Proof.Machine

@[simp] theorem State.storeBytes_pc (s : State) (a : Addr) (bs : List Byte) :
    (s.storeBytes a bs).pc = s.pc := by
  induction bs generalizing s a with
  | nil => rfl
  | cons b bs ih => exact ih (s.callerStore a b) (a + 1#16)

theorem Addr.add_ofNat_succ (a : Addr) (k : Nat) :
    a + BitVec.ofNat 16 (k + 1) = a + 1#16 + BitVec.ofNat 16 k := by
  rw [Nat.add_comm, BitVec.ofNat_add, BitVec.add_assoc]

/-- Stored bytes leave every other address as it was. -/
theorem State.read_storeBytes_other {s : State} (hwf : s.mem.wf = true) {a c : Addr}
    {bs : List Byte} (hc : ∀ k < bs.length, a + BitVec.ofNat 16 k ≠ c) :
    (s.storeBytes a bs).mem.read c = s.mem.read c := by
  induction bs generalizing s a with
  | nil => rfl
  | cons b bs ih =>
    have hhead : a ≠ c := by simpa using hc 0 (by simp)
    have htail : ∀ k < bs.length, a + 1#16 + BitVec.ofNat 16 k ≠ c := fun k hk => by
      rw [← Addr.add_ofNat_succ]
      exact hc (k + 1) (by simpa using hk)
    calc ((s.callerStore a b).storeBytes (a + 1#16) bs).mem.read c
      _ = (s.mem.write a b).read c := ih (Memory.write_wf hwf a b) htail
      _ = s.mem.read c := Memory.read_write_other hwf hhead b

/-- Each stored byte is read back at its own address, modulo 2^16, unless the bytes overrun the whole
address space (R24, R47). -/
theorem State.read_storeBytes {s : State} (hwf : s.mem.wf = true) (a : Addr) {bs : List Byte}
    (hlength : bs.length ≤ Config.addressSpace) {k : Nat} (hk : k < bs.length) :
    (s.storeBytes a bs).mem.read (a + BitVec.ofNat 16 k) = bs[k] := by
  induction bs generalizing s a k with
  | nil => cases hk
  | cons b bs ih =>
    simp only [List.length_cons, Config.addressSpace] at hlength hk
    have hwf' : (s.callerStore a b).mem.wf = true := Memory.write_wf hwf a b
    cases k with
    | zero =>
      have hbeside : ∀ j < bs.length, a + 1#16 + BitVec.ofNat 16 j ≠ a := fun j hj => by
        bv_omega
      rw [BitVec.add_zero, State.storeBytes, State.read_storeBytes_other hwf' hbeside]
      exact Memory.read_write_same hwf a b
    | succ k =>
      rw [Addr.add_ofNat_succ]
      exact ih hwf' (a + 1#16) (by simp only [Config.addressSpace]; omega) (by omega)

/-- A step runs the instruction that is fetched. -/
theorem step_eq_exec_of_fetched {s : State} {i : Instr} (hfetched : s.fetched = some i) :
    step s = exec i s := by
  unfold step
  rw [hfetched]

/-- At most three bytes stored at `PC` are what the bytes of the fetch begin with. -/
theorem State.storeBytes_prefix_fetch {s : State} (hwf : s.mem.wf = true) {bs : List Byte}
    (hlength : bs.length ≤ 3) :
    bs <+: [(s.storeBytes s.pc bs).mem.read s.pc, (s.storeBytes s.pc bs).mem.read (s.pc + 1#16),
      (s.storeBytes s.pc bs).mem.read (s.pc + 2#16)] := by
  refine List.prefix_iff_getElem.mpr ⟨hlength, fun k hk => ?_⟩
  have hread := State.read_storeBytes hwf s.pc (hlength.trans (by decide)) hk
  match k, hk.trans_le hlength with
  | 0, _ => simpa using hread.symm
  | 1, _ => exact hread.symm
  | 2, _ => exact hread.symm

/-- A well-formed instruction whose encoding the caller stores at `PC` is the one fetched there. -/
theorem State.fetched_storeBytes_encode {s : State} (hwf : s.mem.wf = true) {i : Instr}
    (hi : i.wellFormed = true) : (s.storeBytes s.pc (encode i)).fetched = some i := by
  rw [State.fetched, State.storeBytes_pc]
  exact decodeInstr_of_encode_prefix hi (State.storeBytes_prefix_fetch hwf (encode_length_le i))

/-- Settles O22: at any `PC` the stored encoding is what the step fetches. -/
theorem storedInstructionRuns : Obligations.StoredInstructionRuns :=
  fun _ _ hi hwf => step_eq_exec_of_fetched (State.fetched_storeBytes_encode hwf hi)

/-- Settles O23: the stored byte is the one read at `PC`. -/
theorem storedUndefinedOpcodeFaults : Obligations.StoredUndefinedOpcodeFaults := by
  intro s op hwf hop
  have hread : (s.callerStore s.pc op).mem.read s.pc = op := Memory.read_write_same hwf s.pc op
  have hstep := step_of_undefined (s := s.callerStore s.pc op) (by rwa [State.callerStore_pc, hread])
  rwa [State.callerStore_pc, hread] at hstep

end Sys2Proof.Machine
end

section
/-!
PROOFS. The addresses an evaluation reads (R39, R50): the opcode byte first, and as many as R153 gives
for the mode.
-/
namespace Sys2Proof.Machine

/-- Every evaluation reads the opcode byte first (R50). -/
theorem blockReads_head? (pc : Addr) (x : Byte) (m : Memory) :
    (blockReads pc x m).head? = some pc := by
  unfold blockReads
  split <;> rfl

/-- At an undefined opcode value the opcode byte is the only read (R50). -/
theorem blockReads_of_undefined {pc : Addr} {m : Memory} (hop : m.read pc ∈ undefinedOpcodes)
    (x : Byte) : blockReads pc x m = [pc] := by
  unfold blockReads
  rw [lookup_of_undefined _ hop]

/-- At a defined opcode value the reads number what the mode's row of R153 says. -/
theorem length_blockReads_of_lookup {pc : Addr} {m : Memory} {spec : InstructionSpec}
    (hlookup : lookup (m.read pc) = .ok spec) (x : Byte) :
    (blockReads pc x m).length = readsOfMode spec.mode := by
  unfold blockReads
  rw [hlookup]
  exact resolverReads_length spec.mode _ _ pc x

theorem readsOfMode_le_maxReads (mode : Mode) : readsOfMode mode ≤ Config.maxReads := by
  cases mode <;> decide

/-- No evaluation reads more than five bytes (R50). -/
theorem length_blockReads_le (pc : Addr) (x : Byte) (m : Memory) :
    (blockReads pc x m).length ≤ Config.maxReads := by
  by_cases hop : m.read pc ∈ undefinedOpcodes
  · simp [blockReads_of_undefined hop, Config.maxReads]
  · obtain ⟨spec, hlookup⟩ := lookup_of_defined _ hop
    rw [length_blockReads_of_lookup hlookup]
    exact readsOfMode_le_maxReads spec.mode

/-- Settles O45: a step that completes records `blockReads`, whose length is the mode's. -/
theorem readsPerEvaluation : Obligations.ReadsPerEvaluation := by
  refine fun s => ⟨blockReads_head? .., List.length_pos_iff.mpr (blockReads_ne_nil _ _ _),
    length_blockReads_le .., fun hop => blockReads_of_undefined hop s.x, fun t d hstep hout => ?_⟩
  obtain ⟨spec, hlookup⟩ := lookup_of_step_next hstep
  rw [step_of_lookup hlookup] at hstep
  cases hstep
  cases hout
  exact ⟨rfl, length_blockReads_of_lookup hlookup s.x⟩

end Sys2Proof.Machine
end

section
/-!
PROOFS. Encoding and decoding are inverse (R52, R53, R61, R63), and what a step does with the bytes at
`PC`. The decoder hands on the two bytes after the opcode, a byte that is not there read as 0; an operand
whose bytes are all there begins those two exactly when it begins the bytes after the opcode.
-/
namespace Sys2Proof

/-- A list no longer than the bytes after the opcode begins the two the decoder looks at exactly when it
has at most two bytes and begins the bytes after the opcode. -/
theorem prefix_operandBytes_iff {bs tail : List Byte} (hlength : bs.length ≤ tail.length) :
    bs <+: [tail.getD 0 0#8, tail.getD 1 0#8] ↔ bs <+: tail ∧ bs.length ≤ 2 := by
  match tail with
  | [] =>
    obtain rfl : bs = [] := List.length_eq_zero_iff.mp (Nat.le_zero.mp hlength)
    simp
  | [b] =>
    match bs with
    | [] => simp
    | [c] => simp
  | b1 :: b2 :: tail => exact List.prefix_take_iff (ys := b1 :: b2 :: tail) (i := 2)

/-- The operand bytes of a decoded instruction begin the bytes the decoder was given (R52, R53). -/
theorem operand_bytes_prefix_of_decodeInstr {op b1 b2 : Byte} {i : Instr}
    (hdecode : decodeInstr op b1 b2 = some i) : i.operand.bytes <+: [b1, b2] := by
  obtain ⟨-, -, hnone | ⟨hbytes, -⟩ | ⟨hbytes, -, -⟩⟩ := decodeInstr_cases hdecode
  · simp [hnone, Operand.bytes]
  · simp [hbytes]
  · rw [hbytes]

/-- Decoding a list of bytes succeeds exactly when the opcode byte and the two after it decode to an
instruction whose operand bytes are all there; what is left over is what follows them. -/
theorem decodeBytes_cons_eq_ok_iff {op : Byte} {tail rest : List Byte} {i : Instr} :
    decodeBytes (op :: tail) = .ok (i, rest) ↔
      decodeInstr op (tail.getD 0 0#8) (tail.getD 1 0#8) = some i ∧
        i.operand.bytes.length ≤ tail.length ∧ tail.drop i.operand.bytes.length = rest := by
  rw [decodeBytes]
  cases hdecode : decodeInstr op (tail.getD 0 0#8) (tail.getD 1 0#8) with
  | none => simp
  | some j =>
    by_cases hshort : tail.length < j.operand.bytes.length
    · simp only [if_pos hshort]
      constructor
      · rintro ⟨⟩
      · rintro ⟨⟨⟩, hlength, -⟩
        omega
    · simp only [if_neg hshort, Except.ok.injEq, Prod.mk.injEq, Option.some.injEq]
      constructor
      · rintro ⟨rfl, hrest⟩
        exact ⟨rfl, by omega, hrest⟩
      · rintro ⟨rfl, -, hrest⟩
        exact ⟨rfl, hrest⟩

/-- Settles O10: the operand bytes begin the two bytes the decoder looks at, whatever follows them. -/
theorem decodeOfEncodeIsInstruction : Obligations.DecodeOfEncodeIsInstruction := by
  intro i rest hwf
  have hlength : i.operand.bytes.length ≤ (i.operand.bytes ++ rest).length := by simp
  have htwo : i.operand.bytes.length ≤ 2 :=
    Nat.le_of_succ_le_succ (encode_length_le i)
  have hprefix := (prefix_operandBytes_iff hlength).mpr ⟨List.prefix_append _ _, htwo⟩
  exact decodeBytes_cons_eq_ok_iff.mpr
    ⟨decodeInstr_of_encode_prefix hwf (List.cons_prefix_cons.mpr ⟨rfl, hprefix⟩), hlength,
      List.drop_left⟩

/-- Settles O11: the operand bytes of what decodes are all there, so they begin the bytes after the
opcode. -/
theorem decodedBytesAreTheEncoding : Obligations.DecodedBytesAreTheEncoding := by
  intro bytes rest i hok
  cases bytes with
  | nil => cases hok
  | cons op tail =>
    obtain ⟨hdecode, hlength, rfl⟩ := decodeBytes_cons_eq_ok_iff.mp hok
    obtain ⟨-, hwf, -⟩ := decodeInstr_cases hdecode
    obtain ⟨hprefix, -⟩ :=
      (prefix_operandBytes_iff hlength).mp (operand_bytes_prefix_of_decodeInstr hdecode)
    refine ⟨hwf, ?_⟩
    calc op :: tail
      _ = i.opcode :: tail := by rw [decodeInstr_opcode hdecode]
      _ = encode i ++ tail.drop i.operand.bytes.length :=
        congrArg (i.opcode :: ·) (List.prefix_append_drop hprefix)

/-- Settles O9, word by word. -/
theorem specWordsDecode : Obligations.SpecWordsDecode := by
  unfold Obligations.SpecWordsDecode
  decide

end Sys2Proof

namespace Sys2Proof.Machine

/-- Settles O8: what the decoder answers is well formed, and the step runs it. -/
theorem stepRunsDecodedInstruction : Obligations.StepRunsDecodedInstruction := by
  intro s i hdecode
  obtain ⟨-, hwf, -⟩ := decodeInstr_cases hdecode
  exact ⟨hwf, step_eq_exec_of_fetched hdecode⟩

/-- A step ends in `UnknownOpcode op` exactly when `op` stands at `PC` and is undefined (R64, R171). -/
theorem step_eq_fault_iff {s : State} {op : Byte} :
    step s = .fault (.unknownOpcode op) ↔ op = s.mem.read s.pc ∧ op ∈ undefinedOpcodes := by
  constructor
  · intro hstep
    obtain ⟨rfl, hop⟩ := step_fault_cases hstep
    exact ⟨rfl, hop⟩
  · rintro ⟨rfl, hop⟩
    exact step_of_undefined hop

/-- Lookup answers `UnknownOpcode` exactly at the values of R64. -/
theorem lookup_eq_unknownOpcode_iff_mem (op : Byte) :
    lookup op = .error (.unknownOpcode op) ↔ op ∈ undefinedOpcodes :=
  (lookup_eq_unknownOpcode_iff op).trans (mem_undefinedOpcodes_iff op).symm

/-- Settles O13: step, lookup and signals each report `UnknownOpcode` at the values of R64. -/
theorem undefinedOpcodeFaults : Obligations.UndefinedOpcodeFaults := by
  refine fun s op => ⟨step_eq_fault_iff, lookup_eq_unknownOpcode_iff_mem op, fun hstep => ?_⟩
  obtain ⟨rfl, hop⟩ := step_eq_fault_iff.mp hstep
  exact signals_of_undefined hop

end Sys2Proof.Machine
end

section
/-!
PROOFS. The field codes (R58 to R60) and the packing of a ROM word (R62). A code is a position in a list
of names without repeats, so codes and names determine each other and the codes past the end name
nothing; a word is the weighted sum of its fields, and lookup answers the names of a word's codes.
-/
namespace Sys2Proof.Machine

/-- In a list without repeats the name a code has determines the code. -/
theorem idxOf_of_getElem? {α : Type} [DecidableEq α] {names : List α} (hnodup : names.Nodup) {n : Nat}
    {name : α} (hname : names[n]? = some name) : names.idxOf name = n := by
  obtain ⟨hn, rfl⟩ := List.getElem?_eq_some_iff.mp hname
  exact hnodup.idxOf_getElem n hn

/-- The code of a listed name, held in a field of `w` bits that the list's positions fit, reads back as
the name. -/
theorem getElem?_ofNat_idxOf {α : Type} [DecidableEq α] {names : List α} {name : α} {w : Nat}
    (hmem : name ∈ names) (hfits : names.idxOf name < 2 ^ w) :
    names[(BitVec.ofNat w (names.idxOf name)).toNat]? = some name := by
  rw [BitVec.toNat_ofNat, Nat.mod_eq_of_lt hfits, List.getElem?_idxOf hmem]

theorem mem_modeNames (mode : Mode) : mode ∈ modeNames := by cases mode <;> decide

theorem mem_mnemonicNames (mn : Mnemonic) : mn ∈ mnemonicNames := by cases mn <;> decide

theorem mem_classNames (cls : CycleClass) : cls ∈ classNames := by cases cls <;> decide

theorem classCode_lt (cls : CycleClass) : classCode cls < 2 ^ 2 := by cases cls <;> decide

theorem modeCode_of_modeOfCode {c : BitVec 4} {mode : Mode} (h : modeOfCode c = some mode) :
    modeCode mode = c.toNat :=
  idxOf_of_getElem? (by decide) h

theorem mnemonicCode_of_mnemonicOfCode {c : BitVec 6} {mn : Mnemonic}
    (h : mnemonicOfCode c = some mn) : mnemonicCode mn = c.toNat :=
  idxOf_of_getElem? (by decide) h

theorem classCode_of_classOfCode {c : BitVec 2} {cls : CycleClass} (h : classOfCode c = some cls) :
    classCode cls = c.toNat :=
  idxOf_of_getElem? (by decide) h

/-- The mode codes that name nothing are those from 13 on (R58). -/
theorem modeOfCode_eq_none_iff (c : BitVec 4) : modeOfCode c = none ↔ 13 ≤ c.toNat :=
  List.getElem?_eq_none_iff

/-- The mnemonic codes that name nothing are those from 56 on (R59). -/
theorem mnemonicOfCode_eq_none_iff (c : BitVec 6) : mnemonicOfCode c = none ↔ 56 ≤ c.toNat :=
  List.getElem?_eq_none_iff

/-- The one class code that names nothing is 3 (R60). -/
theorem classOfCode_eq_none_iff (c : BitVec 2) : classOfCode c = none ↔ c = 3#2 := by
  have hlength : classOfCode c = none ↔ 3 ≤ c.toNat := List.getElem?_eq_none_iff
  rw [hlength]
  bv_omega

/-- A ROM word is the sum of its fields, each at the weight of its lowest bit (R62). -/
theorem Rom.toNat_eq_fields (w : RomWord) :
    w.toNat = (Rom.vField w).toNat + 2 * (Rom.mnemField w).toNat + 128 * (Rom.modeField w).toNat +
      2048 * (Rom.sizeField w).toNat + 8192 * (Rom.baseField w).toNat +
      65536 * (Rom.classField w).toNat := by
  simp only [Rom.vField, Rom.mnemField, Rom.modeField, Rom.sizeField, Rom.baseField, Rom.classField,
    BitVec.extractLsb'_toNat, Nat.shiftRight_eq_div_pow]
  omega

/-- Everything a lookup that answers a spec has read in the ROM word (R69). -/
theorem lookup_ok_cases {op : Byte} {spec : InstructionSpec} (hlookup : lookup op = .ok spec) :
    Rom.vField (Rom.word op) = 1#1 ∧
    mnemonicOfCode (Rom.mnemField (Rom.word op)) = some spec.mnemonic ∧
    modeOfCode (Rom.modeField (Rom.word op)) = some spec.mode ∧
    classOfCode (Rom.classField (Rom.word op)) = some spec.cls ∧
    spec.size = (Rom.sizeField (Rom.word op)).toNat ∧
    spec.baseCycles = (Rom.baseField (Rom.word op)).toNat := by
  unfold lookup at hlookup
  split at hlookup
  · cases hlookup
  · next hv =>
    split at hlookup
    · next hmnem hmode hcls =>
      cases hlookup
      exact ⟨(BitVec.eq_zero_or_eq_one _).resolve_left hv, hmnem, hmode, hcls, rfl, rfl⟩
    · cases hlookup

/-- R64: the ROM word of an undefined opcode value is all zero. -/
theorem Rom.word_of_undefined : ∀ op ∈ undefinedOpcodes, Rom.word op = 0#18 := by decide

/-- Settles O26: a defined word is the sum of its fields, whose names lookup answers. -/
theorem romWordLayout : Obligations.RomWordLayout := by
  refine fun op => ⟨Rom.word_of_undefined op, fun hop => ?_⟩
  obtain ⟨spec, hlookup⟩ := lookup_of_defined op hop
  obtain ⟨hv, hmnem, hmode, hcls, hsize, hbase⟩ := lookup_ok_cases hlookup
  refine ⟨spec, hlookup, ?_⟩
  rw [Rom.toNat_eq_fields, hv, mnemonicCode_of_mnemonicOfCode hmnem, modeCode_of_modeOfCode hmode,
    classCode_of_classOfCode hcls, hsize, hbase]
  rfl

/-- No ROM word holds a code that names nothing (R58 to R60). -/
theorem Rom.fields_name_something (op : Byte) :
    modeOfCode (Rom.modeField (Rom.word op)) ≠ none ∧
    mnemonicOfCode (Rom.mnemField (Rom.word op)) ≠ none ∧
    classOfCode (Rom.classField (Rom.word op)) ≠ none := by
  by_cases hop : op ∈ undefinedOpcodes
  · rw [Rom.word_of_undefined op hop]
    decide
  · obtain ⟨spec, hlookup⟩ := lookup_of_defined op hop
    obtain ⟨-, hmnem, hmode, hcls, -, -⟩ := lookup_ok_cases hlookup
    simp [hmnem, hmode, hcls]

/-- R58 to R60: the codes that are never stored stand in no ROM word. -/
theorem Rom.fields_stored (op : Byte) :
    (Rom.modeField (Rom.word op)).toNat ≤ 12 ∧ (Rom.mnemField (Rom.word op)).toNat ≤ 55 ∧
      Rom.classField (Rom.word op) ≠ 3#2 := by
  obtain ⟨hmode, hmnem, hcls⟩ := Rom.fields_name_something op
  rw [Ne, modeOfCode_eq_none_iff] at hmode
  rw [Ne, mnemonicOfCode_eq_none_iff] at hmnem
  rw [Ne, classOfCode_eq_none_iff] at hcls
  exact ⟨by omega, by omega, hcls⟩

/-- Settles O31: codes are positions in the lists of R58 to R60, and every field of the ROM names
something. -/
theorem fieldCodes : Obligations.FieldCodes :=
  ⟨rfl, ⟨rfl, rfl⟩, fun mode => getElem?_ofNat_idxOf (mem_modeNames mode) (modeCode_lt mode),
    fun mn => getElem?_ofNat_idxOf (mem_mnemonicNames mn) (mnemonicCode_lt mn), ⟨rfl, rfl, rfl⟩,
    fun cls => getElem?_ofNat_idxOf (mem_classNames cls) (classCode_lt cls), modeOfCode_eq_none_iff,
    mnemonicOfCode_eq_none_iff, classOfCode_eq_none_iff, Rom.fields_stored⟩

end Sys2Proof.Machine
end

section
/-!
PROOFS. The decode ROM (R69 to R78): what lookup takes out of a word, the invariants of every defined word,
and which opcode values have the branch and the page-cross class. With what the resolver can answer in each
mode they make every record the block outputs one of `DecodedInstruction.Ok`, so a step keeps the invariant.
-/
namespace Sys2Proof.Machine

/-- An opcode value with `V = 1` has a spec (R69, R71). -/
theorem lookup_of_vField {op : Byte} (hv : Rom.vField (Rom.word op) = 1#1) :
    ∃ spec, lookup op = .ok spec := by
  have hmem : op ∉ undefinedOpcodes := by simp [mem_undefinedOpcodes_iff, opcodeDefined, hv]
  exact lookup_of_defined op hmem

/-- Settles O25: lookup answers the names of the codes its word holds, and a name has one code. -/
theorem lookupReadsRomWord : Obligations.LookupReadsRomWord := by
  refine fun op => ⟨fun hv => if_pos hv, fun hv => ?_⟩
  obtain ⟨spec, hlookup⟩ := lookup_of_vField hv
  obtain ⟨-, hmnem, hmode, hcls, hsize, hbase⟩ := lookup_ok_cases hlookup
  exact ⟨spec, hlookup, mnemonicCode_of_mnemonicOfCode hmnem, modeCode_of_modeOfCode hmode, hsize,
    hbase, classCode_of_classOfCode hcls⟩

/-- Settles O46: an evaluation takes from a spec its mode, base count and class, and copies the rest. -/
theorem mnemonicIsDescriptive : Obligations.MnemonicIsDescriptive := by
  rintro op op' ⟨mn, mode, size, base, cls⟩ ⟨mn', _, _, _, _⟩ o s hlookup hlookup' rfl rfl rfl rfl
  exact ⟨_, _, evaluate_of_lookup hlookup o s, rfl, evaluate_of_lookup hlookup' o s⟩

/-- R77 (a) to (d), read off the ROM. -/
theorem lookup_invariants {op : Byte} {spec : InstructionSpec} (hlookup : lookup op = .ok spec) :
    spec.size = 1 + extraBytes spec.mode ∧
    2 ≤ spec.baseCycles ∧ spec.baseCycles ≤ 7 ∧
    (spec.cls = .branch ↔ spec.mode = .relative) ∧
    (spec.cls = .pageCross →
      spec.mode = .absoluteX ∨ spec.mode = .absoluteY ∨ spec.mode = .indirectY) :=
  of_decide_eq_true (lookup_forall
    (P := fun _ spec => decide (spec.size = 1 + extraBytes spec.mode ∧
      2 ≤ spec.baseCycles ∧ spec.baseCycles ≤ 7 ∧ (spec.cls = .branch ↔ spec.mode = .relative) ∧
      (spec.cls = .pageCross →
        spec.mode = .absoluteX ∨ spec.mode = .absoluteY ∨ spec.mode = .indirectY)))
    (by decide) op spec hlookup)

/-- Settles O27: (a) to (d) are read off the ROM, (e) holds of every word, defined or not. -/
theorem romInvariants : Obligations.RomInvariants := by
  intro op spec hlookup
  obtain ⟨hsize, hbaseGe, hbaseLe, hbranch, hpageCross⟩ := lookup_invariants hlookup
  obtain ⟨hmode, hmnem, -⟩ := Rom.fields_stored op
  exact ⟨hsize, hbaseGe, hbaseLe, hbranch, hpageCross, hmnem, hmode⟩

/-- Each of the eight conditional branches is Relative, with size 2 and base count 2 (R78). -/
theorem lookup_of_mem_branchOpcodes {op : Byte} (hop : op ∈ branchOpcodes) :
    ∃ mn, lookup op = .ok ⟨mn, .relative, 2, 2, .branch⟩ := by
  fin_cases hop <;> exact ⟨_, rfl⟩

/-- Settles O29: no other opcode value has the branch class, and the eight have one spec but for the
mnemonic. -/
theorem branchClassIsExactlyEight : Obligations.BranchClassIsExactlyEight := by
  intro op spec hlookup
  have hspec (hop : op ∈ branchOpcodes) : ∃ mn, spec = ⟨mn, .relative, 2, 2, .branch⟩ := by
    obtain ⟨mn, hbranch⟩ := lookup_of_mem_branchOpcodes hop
    exact ⟨mn, Except.ok.inj (hlookup.symm.trans hbranch)⟩
  refine ⟨⟨mem_branchOpcodes_of_branch hlookup, fun hop => ?_⟩, fun hcls => ?_⟩
  · obtain ⟨mn, rfl⟩ := hspec hop
    rfl
  · obtain ⟨mn, rfl⟩ := hspec (mem_branchOpcodes_of_branch hlookup hcls)
    exact ⟨rfl, rfl, rfl⟩

/-- The opcode values that owe a cycle for a page crossing (R75). -/
def pageCrossOpcodes : List Byte :=
  [0x11#8, 0x19#8, 0x1D#8, 0x31#8, 0x39#8, 0x3D#8, 0x51#8, 0x59#8, 0x5D#8, 0x71#8, 0x79#8, 0x7D#8,
    0xB1#8, 0xB9#8, 0xBC#8, 0xBD#8, 0xBE#8, 0xD1#8, 0xD9#8, 0xDD#8, 0xF1#8, 0xF9#8, 0xFD#8]

/-- The ROM gives the page-cross class to the opcode values of R75 and to no other. -/
theorem cls_eq_pageCross_iff {op : Byte} {spec : InstructionSpec} (hlookup : lookup op = .ok spec) :
    spec.cls = .pageCross ↔ op ∈ pageCrossOpcodes :=
  of_decide_eq_true (lookup_forall
    (P := fun op spec => decide (spec.cls = .pageCross ↔ op ∈ pageCrossOpcodes)) (by decide)
    op spec hlookup)

/-- The page-cross class owes one cycle for a crossing, whatever `BT` says (R162). -/
theorem totalCycles_of_pageCross {spec : InstructionSpec} (hcls : spec.cls = .pageCross)
    (bt px : Bool) : totalCycles spec bt px = spec.baseCycles + if px then 1 else 0 := by
  rw [totalCycles, hcls, extras]

/-- Settles O30: the class is read off the ROM, the totals off the class. -/
theorem pageCrossClassIsExactlyTwentyThree : Obligations.PageCrossClassIsExactlyTwentyThree :=
  fun _ _ hlookup => ⟨cls_eq_pageCross_iff hlookup, fun hcls bt =>
    ⟨totalCycles_of_pageCross hcls bt true, totalCycles_of_pageCross hcls bt false⟩⟩

/-- The resolver answers no address exactly in the modes Accumulator and Implied (R138, R139). -/
theorem resolve_ea_eq_none_iff (mode : Mode) (pc : Addr) (x y : Byte) (m : Memory) :
    (resolve mode pc x y m).ea = none ↔ mode = .accumulator ∨ mode = .implied := by
  cases mode <;> simp [resolve, resolveWith, indexed]

/-- The resolver reports a crossing only in four modes (R152). -/
theorem mode_of_resolve_pageCrossed {mode : Mode} {pc : Addr} {x y : Byte} {m : Memory}
    (hcrossed : (resolve mode pc x y m).pageCrossed = true) :
    mode = .absoluteX ∨ mode = .absoluteY ∨ mode = .indirectY ∨ mode = .relative := by
  cases mode with
  | absoluteX => exact .inl rfl
  | absoluteY => exact .inr (.inl rfl)
  | indirectY => exact .inr (.inr (.inl rfl))
  | relative => exact .inr (.inr (.inr rfl))
  | _ => cases hcrossed

theorem zeroPage_toNat (b : Byte) : (zeroPage b).toNat = b.toNat :=
  BitVec.toNat_setWidth_of_le (by decide)

/-- In the zero-page modes the address is a byte, whatever the index (R37). -/
theorem resolve_zeroPage {mode : Mode}
    (hmode : mode = .zeropage ∨ mode = .zeropageX ∨ mode = .zeropageY) (pc : Addr) (x y : Byte)
    (m : Memory) : ∃ b, (resolve mode pc x y m).ea = some (zeroPage b) := by
  obtain rfl | rfl | rfl := hmode <;> exact ⟨_, rfl⟩

/-- The record of an evaluation is one the block can output (R163). -/
theorem decodedRecord_ok {op : Byte} {spec : InstructionSpec} (hlookup : lookup op = .ok spec)
    (pc : Addr) (x y : Byte) (bt : Bool) (m : Memory) :
    (decodedRecord op spec (resolve spec.mode pc x y m) bt).Ok := by
  obtain ⟨hsize, hbaseGe, hbaseLe, -, -⟩ := lookup_invariants hlookup
  obtain ⟨-, -, htotal⟩ := lookup_fits_signals hlookup
  exact {
    spec := hlookup
    size := hsize
    base := ⟨hbaseGe, hbaseLe⟩
    total := ⟨(totalCycles_bounds spec bt _).1, Nat.le_of_lt_succ (htotal bt _)⟩
    address := resolve_ea_eq_none_iff spec.mode pc x y m
    crossing := mode_of_resolve_pageCrossed
    zeroPage := fun hmode a ha => by
      obtain ⟨b, hb⟩ := resolve_zeroPage hmode pc x y m
      obtain rfl : zeroPage b = a := Option.some.inj (hb.symm.trans ha)
      rw [zeroPage_toNat]
      exact b.isLt }

/-- Settles O19: a step leaves memory as it is, and what it records is an evaluation's. -/
theorem stepKeepsInvariant : Obligations.StepKeepsInvariant := by
  intro s t hinv hstep
  obtain ⟨spec, hlookup⟩ := lookup_of_step_next hstep
  rw [step_of_lookup hlookup] at hstep
  cases hstep
  refine ⟨hinv.memory, fun d hout => ?_, length_blockReads_of_lookup hlookup s.x⟩
  cases hout
  exact decodedRecord_ok hlookup s.pc s.x s.y s.bt s.mem

end Sys2Proof.Machine
end

section
/-!
PROOFS. The load and store rows of 41 (R81 to R86). What the resolver answers and reads is written out in
plain arithmetic once for each mode; with the total of the class that makes a row of every instruction of
the mode, whichever its opcode, once lookup answers its spec.
-/
namespace Sys2Proof

theorem word16_eq_ofNat (l h : Byte) : word16 l h = BitVec.ofNat 16 (256 * h.toNat + l.toNat) := by
  rw [← word16_toNat, BitVec.ofNat_toNat, BitVec.setWidth_eq]

/-- The operand bytes of a word are its low and its high byte (R55). -/
theorem Operand.bytes_word (a : Addr) : (Operand.word a).bytes = Expected.wordBytes a := by
  rw [Operand.bytes, Expected.wordBytes, ← lo8_toNat, ← hi8_toNat]
  simp only [BitVec.ofNat_toNat, BitVec.setWidth_eq]

end Sys2Proof

namespace Sys2Proof.Machine

theorem zeroPage_eq_ofNat (b : Byte) : zeroPage b = BitVec.ofNat 16 b.toNat :=
  (BitVec.ofNat_toNat 16 b).symm

/-- A zero-page sum wraps within the page (R37). -/
theorem zeroPage_add (b c : Byte) :
    zeroPage (b + c) = BitVec.ofNat 16 ((b.toNat + c.toNat) % 256) := by
  rw [zeroPage_eq_ofNat, BitVec.toNat_add]

/-- The second byte of an indexed zero-page pointer stands in the zero page too (R149). -/
theorem zeroPage_add_add_one (b c : Byte) :
    zeroPage (b + c + 1#8) = BitVec.ofNat 16 ((b.toNat + c.toNat + 1) % 256) := by
  rw [zeroPage_add, BitVec.toNat_add]
  exact congrArg (BitVec.ofNat 16) (Nat.mod_add_mod _ 256 1)

theorem rd16_eq_wordAt (m : Memory) (lo hi : Addr) : rd16 m lo hi = Expected.wordAt m lo hi :=
  word16_eq_ofNat _ _

theorem zeroPageWord_eq_pointee (m : Memory) (z : Byte) :
    zeroPageWord m z = Expected.pointee m z := by
  rw [zeroPageWord, rd16_eq_wordAt, zeroPage_add, zeroPage_eq_ofNat]
  rfl

/-- The crossing of an indexed address compares page numbers (R12). -/
theorem indexed_eq (extra : Nat) (base : Addr) (index : Byte) :
    indexed extra base index = ⟨some (base + BitVec.ofNat 16 index.toNat), extra,
      decide (Expected.page base ≠ Expected.page (base + BitVec.ofNat 16 index.toNat))⟩ := by
  rw [indexed, crosses_eq, BitVec.ofNat_toNat]
  rfl

/-! ## The resolver in plain arithmetic, mode by mode -/

section
variable (b b2 : Byte) (a pc : Addr) (x y : Byte) (m : Memory)

theorem resolveWith_zeropage : resolveWith .zeropage b b2 pc x y m =
    ⟨some (BitVec.ofNat 16 b.toNat), 1, false⟩ := by
  rw [resolveWith, zeroPage_eq_ofNat]

theorem resolveWith_zeropageX : resolveWith .zeropageX b b2 pc x y m =
    ⟨some (BitVec.ofNat 16 ((b.toNat + x.toNat) % 256)), 1, false⟩ := by
  rw [resolveWith, zeroPage_add]

theorem resolveWith_zeropageY : resolveWith .zeropageY b b2 pc x y m =
    ⟨some (BitVec.ofNat 16 ((b.toNat + y.toNat) % 256)), 1, false⟩ := by
  rw [resolveWith, zeroPage_add]

theorem resolveWith_absolute : resolveWith .absolute (lo8 a) (hi8 a) pc x y m =
    ⟨some a, 2, false⟩ := by
  rw [resolveWith, word16_lo8_hi8]

theorem resolveWith_absoluteX : resolveWith .absoluteX (lo8 a) (hi8 a) pc x y m =
    ⟨some (a + BitVec.ofNat 16 x.toNat), 2,
      decide (Expected.page a ≠ Expected.page (a + BitVec.ofNat 16 x.toNat))⟩ := by
  rw [resolveWith, word16_lo8_hi8, indexed_eq]

theorem resolveWith_absoluteY : resolveWith .absoluteY (lo8 a) (hi8 a) pc x y m =
    ⟨some (a + BitVec.ofNat 16 y.toNat), 2,
      decide (Expected.page a ≠ Expected.page (a + BitVec.ofNat 16 y.toNat))⟩ := by
  rw [resolveWith, word16_lo8_hi8, indexed_eq]

theorem resolveWith_indirectX : resolveWith .indirectX b b2 pc x y m =
    ⟨some (Expected.pointee m (b + x)), 1, false⟩ := by
  rw [resolveWith, zeroPageWord_eq_pointee]

theorem resolveWith_indirectY : resolveWith .indirectY b b2 pc x y m =
    ⟨some (Expected.pointee m b + BitVec.ofNat 16 y.toNat), 1,
      decide (Expected.page (Expected.pointee m b) ≠
        Expected.page (Expected.pointee m b + BitVec.ofNat 16 y.toNat))⟩ := by
  rw [resolveWith, zeroPageWord_eq_pointee, indexed_eq]

theorem resolverReads_indirectX : resolverReads .indirectX b b2 pc x =
    [pc + 1#16, BitVec.ofNat 16 ((b.toNat + x.toNat) % 256),
      BitVec.ofNat 16 ((b.toNat + x.toNat + 1) % 256)] := by
  rw [resolverReads, zeroPage_add_add_one, zeroPage_add]

theorem resolverReads_indirectY : resolverReads .indirectY b b2 pc x =
    [pc + 1#16, BitVec.ofNat 16 b.toNat, BitVec.ofNat 16 ((b.toNat + 1) % 256)] := by
  rw [resolverReads, zeroPage_add, zeroPage_eq_ofNat]
  rfl

end

/-- Only Relative has the branch class (R77). -/
theorem cls_ne_branch {op : Byte} {spec : InstructionSpec} (hlookup : lookup op = .ok spec)
    (hmode : spec.mode ≠ .relative) : spec.cls ≠ .branch := by
  obtain ⟨-, -, -, hbranch, -⟩ := lookup_invariants hlookup
  exact fun hcls => hmode (hbranch.mp hcls)

/-- Outside the branch class a crossing costs one cycle, in the page-cross class alone (R160, R162). -/
theorem totalCycles_of_crossing {spec : InstructionSpec} (hcls : spec.cls ≠ .branch) (bt : Bool)
    (p : Prop) [Decidable p] :
    totalCycles spec bt (decide p) =
      if spec.cls = .pageCross ∧ p then spec.baseCycles + 1 else spec.baseCycles := by
  cases hspec : spec.cls with
  | branch => exact absurd hspec hcls
  | none => simp [totalCycles, extras, hspec]
  | pageCross => by_cases hp : p <;> simp [totalCycles, extras, hspec, hp]

end Sys2Proof.Machine

namespace Sys2Proof.Expected

open Sys2Proof.Machine

/-- An instruction whose opcode has the spec `spec` has the row of that spec, with the address, crossing and
reads of the resolver and the total of the class (R80, R157). -/
theorem row_of_lookup {i : Instr} {op : Byte} {o : Operand} {spec : InstructionSpec}
    {operands : List Byte} {address : State → Option Addr} {crossed : State → Bool}
    {cycles : State → Nat} {reads : State → List Addr} (hopcode : i.opcode = op)
    (hoperand : i.operand = o) (hlookup : lookup op = .ok spec) (hbytes : o.bytes = operands)
    (hresolve : ∀ s : State, resolveWith spec.mode o.first o.second s.pc s.x s.y s.mem =
      ⟨address s, extraBytes spec.mode, crossed s⟩)
    (hcycles : ∀ s : State, totalCycles spec s.bt (crossed s) = cycles s)
    (hreads : ∀ s : State, resolverReads spec.mode o.first o.second s.pc s.x = reads s) :
    row i op operands (Rom.word op) spec address crossed cycles reads := by
  subst hopcode hoperand
  refine ⟨congrArg (i.opcode :: ·) hbytes, rfl, hlookup, fun s => ?_⟩
  rw [exec_eq_evaluate, evaluate_of_lookup hlookup, hresolve, hreads, decodedRecord, hcycles]
  rfl

section
variable {i : Instr} {op : Byte} {mn : Mnemonic} {base : Nat} {cls : CycleClass} {b : Byte}
  {a : Addr}

theorem immediate_of_lookup (hopcode : i.opcode = op) (hoperand : i.operand = .byte b)
    (hlookup : lookup op = .ok ⟨mn, .immediate, 2, base, .none⟩) :
    immediate i op (Rom.word op) mn base b :=
  row_of_lookup hopcode hoperand hlookup rfl (fun _ => rfl) (fun _ => rfl) (fun _ => rfl)

theorem zeropage_of_lookup (hopcode : i.opcode = op) (hoperand : i.operand = .byte b)
    (hlookup : lookup op = .ok ⟨mn, .zeropage, 2, base, .none⟩) :
    zeropage i op (Rom.word op) mn base b :=
  row_of_lookup hopcode hoperand hlookup rfl (fun _ => resolveWith_zeropage ..) (fun _ => rfl)
    (fun _ => rfl)

theorem zeropageX_of_lookup (hopcode : i.opcode = op) (hoperand : i.operand = .byte b)
    (hlookup : lookup op = .ok ⟨mn, .zeropageX, 2, base, .none⟩) :
    zeropageX i op (Rom.word op) mn base b :=
  row_of_lookup hopcode hoperand hlookup rfl (fun _ => resolveWith_zeropageX ..) (fun _ => rfl)
    (fun _ => rfl)

theorem zeropageY_of_lookup (hopcode : i.opcode = op) (hoperand : i.operand = .byte b)
    (hlookup : lookup op = .ok ⟨mn, .zeropageY, 2, base, .none⟩) :
    zeropageY i op (Rom.word op) mn base b :=
  row_of_lookup hopcode hoperand hlookup rfl (fun _ => resolveWith_zeropageY ..) (fun _ => rfl)
    (fun _ => rfl)

theorem absolute_of_lookup (hopcode : i.opcode = op) (hoperand : i.operand = .word a)
    (hlookup : lookup op = .ok ⟨mn, .absolute, 3, base, .none⟩) :
    absolute i op (Rom.word op) mn base a :=
  row_of_lookup hopcode hoperand hlookup (Operand.bytes_word a) (fun _ => resolveWith_absolute ..)
    (fun _ => rfl) (fun _ => rfl)

theorem absoluteX_of_lookup (hopcode : i.opcode = op) (hoperand : i.operand = .word a)
    (hlookup : lookup op = .ok ⟨mn, .absoluteX, 3, base, cls⟩) :
    absoluteX i op (Rom.word op) mn base cls a :=
  row_of_lookup hopcode hoperand hlookup (Operand.bytes_word a) (fun _ => resolveWith_absoluteX ..)
    (fun _ => totalCycles_of_crossing (cls_ne_branch hlookup nofun) ..) (fun _ => rfl)

theorem absoluteY_of_lookup (hopcode : i.opcode = op) (hoperand : i.operand = .word a)
    (hlookup : lookup op = .ok ⟨mn, .absoluteY, 3, base, cls⟩) :
    absoluteY i op (Rom.word op) mn base cls a :=
  row_of_lookup hopcode hoperand hlookup (Operand.bytes_word a) (fun _ => resolveWith_absoluteY ..)
    (fun _ => totalCycles_of_crossing (cls_ne_branch hlookup nofun) ..) (fun _ => rfl)

theorem indirectX_of_lookup (hopcode : i.opcode = op) (hoperand : i.operand = .byte b)
    (hlookup : lookup op = .ok ⟨mn, .indirectX, 2, base, .none⟩) :
    indirectX i op (Rom.word op) mn base b :=
  row_of_lookup hopcode hoperand hlookup rfl (fun _ => resolveWith_indirectX ..) (fun _ => rfl)
    (fun _ => resolverReads_indirectX ..)

theorem indirectY_of_lookup (hopcode : i.opcode = op) (hoperand : i.operand = .byte b)
    (hlookup : lookup op = .ok ⟨mn, .indirectY, 2, base, cls⟩) :
    indirectY i op (Rom.word op) mn base cls b :=
  row_of_lookup hopcode hoperand hlookup rfl (fun _ => resolveWith_indirectY ..)
    (fun _ => totalCycles_of_crossing (cls_ne_branch hlookup nofun) ..)
    (fun _ => resolverReads_indirectY ..)

end

/-- Settles O1, mnemonic by mnemonic: each row is its mode's, and its opcode, operand and spec are read off
the model. -/
theorem loadStoreRowsComplete : Obligations.LoadStoreRowsComplete := fun _ _ => ⟨
  -- LDA
  indirectX_of_lookup rfl rfl rfl, zeropage_of_lookup rfl rfl rfl, immediate_of_lookup rfl rfl rfl,
  absolute_of_lookup rfl rfl rfl, indirectY_of_lookup rfl rfl rfl, zeropageX_of_lookup rfl rfl rfl,
  absoluteY_of_lookup rfl rfl rfl, absoluteX_of_lookup rfl rfl rfl,
  -- LDX
  immediate_of_lookup rfl rfl rfl, zeropage_of_lookup rfl rfl rfl, absolute_of_lookup rfl rfl rfl,
  zeropageY_of_lookup rfl rfl rfl, absoluteY_of_lookup rfl rfl rfl,
  -- LDY
  immediate_of_lookup rfl rfl rfl, zeropage_of_lookup rfl rfl rfl, absolute_of_lookup rfl rfl rfl,
  zeropageX_of_lookup rfl rfl rfl, absoluteX_of_lookup rfl rfl rfl,
  -- STA
  indirectX_of_lookup rfl rfl rfl, zeropage_of_lookup rfl rfl rfl, absolute_of_lookup rfl rfl rfl,
  indirectY_of_lookup rfl rfl rfl, zeropageX_of_lookup rfl rfl rfl, absoluteY_of_lookup rfl rfl rfl,
  absoluteX_of_lookup rfl rfl rfl,
  -- STX
  zeropage_of_lookup rfl rfl rfl, absolute_of_lookup rfl rfl rfl, zeropageY_of_lookup rfl rfl rfl,
  -- STY
  zeropage_of_lookup rfl rfl rfl, absolute_of_lookup rfl rfl rfl, zeropageX_of_lookup rfl rfl rfl⟩

end Sys2Proof.Expected
end

section
/-!
PROOFS. The register-transfer and stack rows of 42 (R87 to R96). They are all of mode Implied, whose
instructions carry no operand: nothing is resolved and the opcode is the only read.
-/
namespace Sys2Proof.Expected

open Sys2Proof.Machine

/-- An instruction without an operand whose spec is of mode Implied has an Implied row, whichever its opcode
(R139). -/
theorem implied_of_lookup {i : Instr} {op : Byte} {mn : Mnemonic} {base : Nat} (hopcode : i.opcode = op)
    (hoperand : i.operand = .none) (hlookup : lookup op = .ok ⟨mn, .implied, 1, base, .none⟩) :
    implied i op (Rom.word op) mn base :=
  row_of_lookup hopcode hoperand hlookup rfl (fun _ => rfl) (fun _ => rfl) (fun _ => rfl)

/-- Settles O2: each row is an Implied one, and its opcode, operand and spec are read off the model. -/
theorem transferStackRowsComplete : Obligations.TransferStackRowsComplete := ⟨
  -- TAX, TAY, TSX, TXA, TXS, TYA
  implied_of_lookup rfl rfl rfl, implied_of_lookup rfl rfl rfl, implied_of_lookup rfl rfl rfl,
  implied_of_lookup rfl rfl rfl, implied_of_lookup rfl rfl rfl, implied_of_lookup rfl rfl rfl,
  -- PHA, PHP, PLA, PLP
  implied_of_lookup rfl rfl rfl, implied_of_lookup rfl rfl rfl, implied_of_lookup rfl rfl rfl,
  implied_of_lookup rfl rfl rfl⟩

end Sys2Proof.Expected
end

section
/-!
PROOFS. The arithmetic, logic and compare rows of 43 (R97 to R105). They use eight of the modes of 41 and the
block computes nothing on their operands, so the rows of those modes are theirs too.
-/
namespace Sys2Proof.Expected

open Sys2Proof.Machine

/-- Settles O3, mnemonic by mnemonic: each row is its mode's, and its opcode, operand and spec are read off
the model. -/
theorem aluRowsComplete : Obligations.AluRowsComplete := fun _ _ => ⟨
  -- ADC
  indirectX_of_lookup rfl rfl rfl, zeropage_of_lookup rfl rfl rfl, immediate_of_lookup rfl rfl rfl,
  absolute_of_lookup rfl rfl rfl, indirectY_of_lookup rfl rfl rfl, zeropageX_of_lookup rfl rfl rfl,
  absoluteY_of_lookup rfl rfl rfl, absoluteX_of_lookup rfl rfl rfl,
  -- SBC
  indirectX_of_lookup rfl rfl rfl, zeropage_of_lookup rfl rfl rfl, immediate_of_lookup rfl rfl rfl,
  absolute_of_lookup rfl rfl rfl, indirectY_of_lookup rfl rfl rfl, zeropageX_of_lookup rfl rfl rfl,
  absoluteY_of_lookup rfl rfl rfl, absoluteX_of_lookup rfl rfl rfl,
  -- AND
  indirectX_of_lookup rfl rfl rfl, zeropage_of_lookup rfl rfl rfl, immediate_of_lookup rfl rfl rfl,
  absolute_of_lookup rfl rfl rfl, indirectY_of_lookup rfl rfl rfl, zeropageX_of_lookup rfl rfl rfl,
  absoluteY_of_lookup rfl rfl rfl, absoluteX_of_lookup rfl rfl rfl,
  -- ORA
  indirectX_of_lookup rfl rfl rfl, zeropage_of_lookup rfl rfl rfl, immediate_of_lookup rfl rfl rfl,
  absolute_of_lookup rfl rfl rfl, indirectY_of_lookup rfl rfl rfl, zeropageX_of_lookup rfl rfl rfl,
  absoluteY_of_lookup rfl rfl rfl, absoluteX_of_lookup rfl rfl rfl,
  -- EOR
  indirectX_of_lookup rfl rfl rfl, zeropage_of_lookup rfl rfl rfl, immediate_of_lookup rfl rfl rfl,
  absolute_of_lookup rfl rfl rfl, indirectY_of_lookup rfl rfl rfl, zeropageX_of_lookup rfl rfl rfl,
  absoluteY_of_lookup rfl rfl rfl, absoluteX_of_lookup rfl rfl rfl,
  -- CMP
  indirectX_of_lookup rfl rfl rfl, zeropage_of_lookup rfl rfl rfl, immediate_of_lookup rfl rfl rfl,
  absolute_of_lookup rfl rfl rfl, indirectY_of_lookup rfl rfl rfl, zeropageX_of_lookup rfl rfl rfl,
  absoluteY_of_lookup rfl rfl rfl, absoluteX_of_lookup rfl rfl rfl,
  -- CPX
  immediate_of_lookup rfl rfl rfl, zeropage_of_lookup rfl rfl rfl, absolute_of_lookup rfl rfl rfl,
  -- CPY
  immediate_of_lookup rfl rfl rfl, zeropage_of_lookup rfl rfl rfl, absolute_of_lookup rfl rfl rfl,
  -- BIT
  zeropage_of_lookup rfl rfl rfl, absolute_of_lookup rfl rfl rfl⟩

end Sys2Proof.Expected
end

section
/-!
PROOFS. The shift, rotate, increment and decrement rows of 44 (R106 to R115). Beside the modes of 41 and 42
they use Accumulator, which like Implied carries no operand. Their AbsoluteX rows are of class none, so the
row of that mode gives them the total 7 whether a page is crossed or not.
-/
namespace Sys2Proof.Expected

open Sys2Proof.Machine

/-- An instruction without an operand whose spec is of mode Accumulator has an Accumulator row, whichever its
opcode (R138). -/
theorem accumulator_of_lookup {i : Instr} {op : Byte} {mn : Mnemonic} {base : Nat}
    (hopcode : i.opcode = op) (hoperand : i.operand = .none)
    (hlookup : lookup op = .ok ⟨mn, .accumulator, 1, base, .none⟩) :
    accumulator i op (Rom.word op) mn base :=
  row_of_lookup hopcode hoperand hlookup rfl (fun _ => rfl) (fun _ => rfl) (fun _ => rfl)

/-- Settles O4, mnemonic by mnemonic: each row is its mode's, and its opcode, operand and spec are read off
the model. -/
theorem shiftIncDecRowsComplete : Obligations.ShiftIncDecRowsComplete := fun _ _ => ⟨
  -- ASL
  zeropage_of_lookup rfl rfl rfl, accumulator_of_lookup rfl rfl rfl, absolute_of_lookup rfl rfl rfl,
  zeropageX_of_lookup rfl rfl rfl, absoluteX_of_lookup rfl rfl rfl,
  -- LSR
  zeropage_of_lookup rfl rfl rfl, accumulator_of_lookup rfl rfl rfl, absolute_of_lookup rfl rfl rfl,
  zeropageX_of_lookup rfl rfl rfl, absoluteX_of_lookup rfl rfl rfl,
  -- ROL
  zeropage_of_lookup rfl rfl rfl, accumulator_of_lookup rfl rfl rfl, absolute_of_lookup rfl rfl rfl,
  zeropageX_of_lookup rfl rfl rfl, absoluteX_of_lookup rfl rfl rfl,
  -- ROR
  zeropage_of_lookup rfl rfl rfl, accumulator_of_lookup rfl rfl rfl, absolute_of_lookup rfl rfl rfl,
  zeropageX_of_lookup rfl rfl rfl, absoluteX_of_lookup rfl rfl rfl,
  -- INC
  zeropage_of_lookup rfl rfl rfl, absolute_of_lookup rfl rfl rfl, zeropageX_of_lookup rfl rfl rfl,
  absoluteX_of_lookup rfl rfl rfl,
  -- DEC
  zeropage_of_lookup rfl rfl rfl, absolute_of_lookup rfl rfl rfl, zeropageX_of_lookup rfl rfl rfl,
  absoluteX_of_lookup rfl rfl rfl,
  -- INX, INY, DEX, DEY
  implied_of_lookup rfl rfl rfl, implied_of_lookup rfl rfl rfl, implied_of_lookup rfl rfl rfl,
  implied_of_lookup rfl rfl rfl⟩

end Sys2Proof.Expected
end

section
/-!
PROOFS. The branch, jump, subroutine, return and break rows of 45 (R116 to R128). Beside the modes of 41 and
42 they use Relative, whose offset byte sign-extends to the signed offset and whose class pays for a branch
that is taken (R161), and Indirect, whose second pointer byte stays in the pointer's own page (R148).
-/
namespace Sys2Proof.Machine

/-- The target of a branch is its signed offset from the next instruction, modulo 2^16 (R56, R147). -/
theorem branchTarget_ofInt {o : Int} (h : offsetFits o = true) (pc : Addr) :
    branchTarget pc (BitVec.ofInt 8 o) = pc + 2#16 + BitVec.ofInt 16 o := by
  rw [branchTarget, BitVec.signExtend, ofInt_toInt_of_fits h, afterBranch]

theorem resolveWith_relative {o : Int} (h : offsetFits o = true) (b2 : Byte) (pc : Addr) (x y : Byte)
    (m : Memory) : resolveWith .relative (BitVec.ofInt 8 o) b2 pc x y m =
    ⟨some (pc + 2#16 + BitVec.ofInt 16 o), 1,
      decide (Expected.page (pc + 2#16) ≠ Expected.page (pc + 2#16 + BitVec.ofInt 16 o))⟩ := by
  rw [resolveWith, branchTarget_ofInt h, crosses_eq]
  rfl

/-- A branch pays one cycle for being taken and one more for leaving the page (R161). -/
theorem totalCycles_of_branch {spec : InstructionSpec} (hcls : spec.cls = .branch) (bt : Bool)
    (samePage : Prop) [Decidable samePage] :
    totalCycles spec bt (decide ¬samePage) =
      if bt = false then spec.baseCycles
      else if samePage then spec.baseCycles + 1 else spec.baseCycles + 2 := by
  cases bt with
  | false => simp [totalCycles, extras, hcls]
  | true => by_cases hpage : samePage <;> simp [totalCycles, extras, hcls, hpage]

/-- The second byte of a pointer: the low byte of its address wraps, the page number stays (R148). -/
theorem samePageNext_eq_ofNat (p : Addr) :
    samePageNext p = BitVec.ofNat 16 (256 * Expected.page p + (p.toNat + 1) % 256) := by
  have hlow : (lo8 p + 1#8).toNat = (p.toNat + 1) % 256 := by
    rw [BitVec.toNat_add, lo8_toNat]
    exact Nat.mod_add_mod _ 256 1
  rw [samePageNext, word16_eq_ofNat, hi8_toNat, hlow]
  rfl

theorem resolveWith_indirect (p pc : Addr) (x y : Byte) (m : Memory) :
    resolveWith .indirect (lo8 p) (hi8 p) pc x y m =
      ⟨some (Expected.wordAt m p
        (BitVec.ofNat 16 (256 * Expected.page p + (p.toNat + 1) % 256))), 2, false⟩ := by
  rw [resolveWith, word16_lo8_hi8, rd16_eq_wordAt, samePageNext_eq_ofNat]

theorem resolverReads_indirect (p pc : Addr) (x : Byte) :
    resolverReads .indirect (lo8 p) (hi8 p) pc x = [pc + 1#16, pc + 2#16, p,
      BitVec.ofNat 16 (256 * Expected.page p + (p.toNat + 1) % 256)] := by
  rw [resolverReads, word16_lo8_hi8, samePageNext_eq_ofNat]

end Sys2Proof.Machine

namespace Sys2Proof.Expected

open Sys2Proof.Machine

section
variable {i : Instr} {op : Byte} {mn : Mnemonic}

theorem relative_of_lookup {o : Int} (hfits : offsetFits o = true) (hopcode : i.opcode = op)
    (hoperand : i.operand = .offset o)
    (hlookup : lookup op = .ok ⟨mn, .relative, 2, Config.branchBaseCycles, .branch⟩) :
    relative i op (Rom.word op) mn o :=
  row_of_lookup hopcode hoperand hlookup rfl (fun _ => resolveWith_relative hfits ..)
    (fun s => totalCycles_of_branch rfl s.bt _) (fun _ => rfl)

theorem indirect_of_lookup {base : Nat} {p : Addr} (hopcode : i.opcode = op)
    (hoperand : i.operand = .word p) (hlookup : lookup op = .ok ⟨mn, .indirect, 3, base, .none⟩) :
    indirect i op (Rom.word op) mn base p :=
  row_of_lookup hopcode hoperand hlookup (Operand.bytes_word p) (fun _ => resolveWith_indirect ..)
    (fun _ => rfl) (fun _ => resolverReads_indirect ..)

end

/-- Settles O5: the offset fits its byte, so each row is a Relative one, and its opcode, operand and spec are
read off the model. -/
theorem branchRowsComplete : Obligations.BranchRowsComplete := by
  intro o hlow hhigh
  have hfits : offsetFits o = true := by simp [offsetFits, hlow, hhigh]
  exact ⟨
    -- BPL, BMI, BVC, BVS
    relative_of_lookup hfits rfl rfl rfl, relative_of_lookup hfits rfl rfl rfl,
    relative_of_lookup hfits rfl rfl rfl, relative_of_lookup hfits rfl rfl rfl,
    -- BCC, BCS, BNE, BEQ
    relative_of_lookup hfits rfl rfl rfl, relative_of_lookup hfits rfl rfl rfl,
    relative_of_lookup hfits rfl rfl rfl, relative_of_lookup hfits rfl rfl rfl⟩

/-- Settles O6, mnemonic by mnemonic: each row is its mode's, and its opcode, operand and spec are read off
the model. -/
theorem jumpReturnBreakRowsComplete : Obligations.JumpReturnBreakRowsComplete := fun _ => ⟨
  -- JMP
  absolute_of_lookup rfl rfl rfl, indirect_of_lookup rfl rfl rfl,
  -- JSR
  absolute_of_lookup rfl rfl rfl,
  -- RTS, RTI, BRK
  implied_of_lookup rfl rfl rfl, implied_of_lookup rfl rfl rfl, implied_of_lookup rfl rfl rfl⟩

end Sys2Proof.Expected
end

section
/-!
PROOFS. The flag and no-operation rows of 46 (R129 to R136). They are all of mode Implied, so the row of that
mode in 42 is theirs: what a flag instruction does to its flag is execution, which the block has no part in
(R4).
-/
namespace Sys2Proof.Expected

open Sys2Proof.Machine

/-- Settles O7: each row is an Implied one, and its opcode, operand and spec are read off the model. -/
theorem flagNopRowsComplete : Obligations.FlagNopRowsComplete := ⟨
  -- CLC, SEC, CLI, SEI
  implied_of_lookup rfl rfl rfl, implied_of_lookup rfl rfl rfl, implied_of_lookup rfl rfl rfl,
  implied_of_lookup rfl rfl rfl,
  -- CLD, SED, CLV, NOP
  implied_of_lookup rfl rfl rfl, implied_of_lookup rfl rfl rfl, implied_of_lookup rfl rfl rfl,
  implied_of_lookup rfl rfl rfl⟩

end Sys2Proof.Expected
end

section
/-!
PROOFS. The addressing-mode resolver (47_address_resolver) in plain arithmetic, over the operand bytes that
stand at `PC + 1` and `PC + 2`. The two operand bytes are the word `Expected.wordAt` reads there, so the
modes of 41 and 45, stated for the operand of an instruction, are the resolver's own.
-/
namespace Sys2Proof.Machine

/-- An address sum is modulo 2^16 (R9). -/
theorem Addr.add_ofNat (a : Addr) (n : Nat) :
    a + BitVec.ofNat 16 n = BitVec.ofNat 16 (a.toNat + n) := by
  rw [BitVec.ofNat_add, BitVec.ofNat_toNat, BitVec.setWidth_eq]

/-- The resolver of R137 takes its operand from the word at `PC + 1` and `PC + 2`. -/
theorem resolve_eq_resolveWith_wordAt (mode : Mode) (pc : Addr) (x y : Byte) (m : Memory) :
    resolve mode pc x y m = resolveWith mode (lo8 (Expected.wordAt m (pc + 1#16) (pc + 2#16)))
      (hi8 (Expected.wordAt m (pc + 1#16) (pc + 2#16))) pc x y m := by
  rw [← rd16_eq_wordAt, rd16, lo8_word16, hi8_word16]
  rfl

/-- Settles O32, mode by mode. -/
theorem resolverUnindexedModes : Obligations.ResolverUnindexedModes := by
  intro pc x y m
  simp only [← Addr.add_ofNat]
  exact ⟨rfl, rfl, rfl, resolveWith_zeropage ..,
    (resolve_eq_resolveWith_wordAt ..).trans (resolveWith_absolute ..),
    fun _ _ => ⟨rfl, rfl, rfl, rfl, rfl⟩⟩

/-- Settles O33: the sum of byte and index is a byte. -/
theorem resolverZeroPageIndexedWraps : Obligations.ResolverZeroPageIndexedWraps :=
  fun _ _ _ _ => ⟨resolveWith_zeropageX .., resolveWith_zeropageY ..⟩

theorem wordAt_mod_256 (m : Memory) (lo hi : Addr) :
    (Expected.wordAt m lo hi).toNat % 256 = (m.read lo).toNat := by
  rw [← lo8_toNat, ← rd16_eq_wordAt, rd16, lo8_word16]

/-- An index moves a base to another page exactly when the sum of the low bytes carries, also where the
address wraps at 2^16 (R145). -/
theorem page_ne_page_add_iff (base : Addr) (index : Byte) :
    Expected.page base ≠ Expected.page (BitVec.ofNat 16 (base.toNat + index.toNat)) ↔
      256 ≤ base.toNat % 256 + index.toNat := by
  have hbase := base.isLt
  have hindex := index.isLt
  simp only [Expected.page, BitVec.toNat_ofNat]
  omega

/-- Settles O34: the base is the operand word, its low byte the one at `PC + 1`. -/
theorem resolverAbsoluteIndexed : Obligations.ResolverAbsoluteIndexed := by
  intro pc x y m base eaX eaY
  have hcarry (index : Byte) :
      Expected.page base ≠ Expected.page (BitVec.ofNat 16 (base.toNat + index.toNat)) ↔
        256 ≤ (m.read (pc + 1#16)).toNat + index.toNat := by
    rw [page_ne_page_add_iff, wordAt_mod_256]
  refine ⟨?_, ?_, hcarry x, hcarry y⟩
  · rw [resolve_eq_resolveWith_wordAt, resolveWith_absoluteX, Addr.add_ofNat]
  · rw [resolve_eq_resolveWith_wordAt, resolveWith_absoluteY, Addr.add_ofNat]

/-- A byte as an offset: from 128 on it stands for the number 256 below (R56). -/
theorem toInt_eq_offset (b : Byte) :
    b.toInt = if b.toNat < 128 then (b.toNat : Int) else b.toNat - 256 := by
  rw [BitVec.toInt_eq_toNat_cond]
  split <;> split <;> omega

/-- An offset is added to the next instruction's address modulo 2^16 (R147). -/
theorem afterBranch_add_ofInt (pc : Addr) (o : Int) :
    pc + 2#16 + BitVec.ofInt 16 o = BitVec.ofInt 16 (pc.toNat + 2 + o) := by
  rw [BitVec.ofInt_add, Addr.add_ofNat]
  rfl

/-- Settles O35: the byte is its own offset's byte, and every byte is an offset that fits. -/
theorem resolverRelative : Obligations.ResolverRelative := by
  intro pc x y m o target
  have ho : (m.read (pc + 1#16)).toInt = o := toInt_eq_offset _
  have hfits : offsetFits o = true := ho ▸ offsetFits_toInt _
  have hbyte : BitVec.ofInt 8 o = m.read (pc + 1#16) := by rw [← ho, BitVec.ofInt_toInt]
  have htarget : pc + 2#16 + BitVec.ofInt 16 o = target := afterBranch_add_ofInt pc o
  rw [resolve, ← hbyte, resolveWith_relative hfits, htarget]

/-- Before the end of its page a pointer's second byte is the next one (R148). -/
theorem samePageNext_of_ne {p : Addr} (h : p.toNat % 256 ≠ 255) : samePageNext p = p + 1#16 := by
  rw [samePageNext_eq_ofNat, Addr.add_ofNat, Expected.page]
  exact congrArg (BitVec.ofNat 16) (by omega)

/-- At the end of its page a pointer's second byte is the page's first (R148). -/
theorem samePageNext_of_eq {p : Addr} (h : p.toNat % 256 = 255) : samePageNext p = p - 255#16 := by
  have hlow : (p.toNat + 1) % 256 = 0 := by omega
  have hsub : p - 255#16 = BitVec.ofNat 16 (p.toNat - 255) := by bv_omega
  rw [samePageNext_eq_ofNat, hlow, hsub, Expected.page]
  exact congrArg (BitVec.ofNat 16) (by omega)

theorem resolve_indirect (pc : Addr) (x y : Byte) (m : Memory) :
    resolve .indirect pc x y m =
      ⟨some (Expected.wordAt m (Expected.wordAt m (pc + 1#16) (pc + 2#16))
        (samePageNext (Expected.wordAt m (pc + 1#16) (pc + 2#16)))), 2, false⟩ := by
  rw [resolve_eq_resolveWith_wordAt, resolveWith_indirect, ← samePageNext_eq_ofNat]

/-- Settles O36: the second byte is the next of the page, at its end the page's first. -/
theorem resolverIndirectPageWrap : Obligations.ResolverIndirectPageWrap := by
  refine fun pc x y m => ⟨fun hinside => ?_, fun hend => ?_⟩
  · rw [resolve_indirect, samePageNext_of_ne hinside]
  · rw [resolve_indirect, samePageNext_of_eq hend]

/-- Settles O37: both pointers are in the zero page, and Y is added modulo 2^16. -/
theorem resolverIndexedIndirect : Obligations.ResolverIndexedIndirect := by
  refine fun pc x y m => ⟨resolveWith_indirectX .., ?_⟩
  intro base ea
  rw [resolve, resolveWith_indirectY, Addr.add_ofNat]

/-- One set of inputs crosses in each of the four modes: over the bytes 0xFD at 0x0001 and 0x01 at 0x00FD,
with both index registers at 0xFF. -/
theorem resolve_pageCrossed_example :
    ∀ mode ∈ [Mode.absoluteX, .absoluteY, .indirectY, .relative],
      (resolve mode 0x0000#16 0xFF#8 0xFF#8 [(0x01, 0xFD#8), (0xFD, 0x01#8)]).pageCrossed = true := by
  decide

/-- Settles O42: the other modes report none, and an example crosses in each of the four. -/
theorem pageCrossingOnlyInFourModes : Obligations.PageCrossingOnlyInFourModes :=
  ⟨fun _ _ _ _ _ => mode_of_resolve_pageCrossed,
    fun mode hmode => ⟨_, _, _, _, resolve_pageCrossed_example mode hmode⟩⟩

/-- The table of R151. -/
theorem extraBytes_eq (mode : Mode) : extraBytes mode =
    if mode = .accumulator ∨ mode = .implied then 0
    else if mode = .absolute ∨ mode = .absoluteX ∨ mode = .absoluteY ∨ mode = .indirect then 2
    else 1 := by
  cases mode <;> rfl

/-- Settles O38: the count is the mode's, and a row's size is one more (R77). -/
theorem resolverExtraBytes : Obligations.ResolverExtraBytes := by
  intro mode pc x y m
  have hcount : (resolve mode pc x y m).extraBytes = extraBytes mode := resolveWith_extraBytes ..
  refine ⟨hcount.trans (extraBytes_eq mode), ?_⟩
  rintro op spec hlookup rfl
  obtain ⟨hsize, -⟩ := lookup_invariants hlookup
  omega

end Sys2Proof.Machine
end

section
/-!
PROOFS. Decode and dispatch (48_decode_dispatch): a step is the decode operation of R157 over the raw memory
(R163), it always completes or faults (R166), and it depends on nothing but its inputs and the bytes it reads
(R165).
-/
namespace Sys2Proof.Machine

theorem blockDecode_of_lookup {pc : Addr} {m : Memory} {spec : InstructionSpec}
    (hlookup : lookup (m.read pc) = .ok spec) (x y : Byte) (bt : Bool) :
    blockDecode pc x y bt m =
      .ok (decodedRecord (m.read pc) spec (resolve spec.mode pc x y m) bt) := by
  rw [blockDecode, hlookup]

theorem blockDecode_of_undefined {pc : Addr} {m : Memory} (hop : m.read pc ∈ undefinedOpcodes)
    (x y : Byte) (bt : Bool) : blockDecode pc x y bt m = .error (.unknownOpcode (m.read pc)) := by
  rw [blockDecode, lookup_of_undefined _ hop]

theorem blockReads_of_lookup {pc : Addr} {m : Memory} {spec : InstructionSpec}
    (hlookup : lookup (m.read pc) = .ok spec) (x : Byte) :
    blockReads pc x m =
      pc :: resolverReads spec.mode (m.read (pc + 1#16)) (m.read (pc + 2#16)) pc x := by
  rw [blockReads, hlookup]

/-- Settles O12, at an undefined and at a defined opcode value. -/
theorem stepRefinesBlockDecode : Obligations.StepRefinesBlockDecode := by
  intro s
  by_cases hop : s.mem.read s.pc ∈ undefinedOpcodes
  · rw [blockDecode_of_undefined hop]
    exact ⟨rfl, step_of_undefined hop, blockReads_of_undefined hop s.x⟩
  · obtain ⟨spec, hlookup⟩ := lookup_of_defined _ hop
    rw [blockDecode_of_lookup hlookup]
    exact step_of_lookup hlookup

/-- Settles O14: a defined opcode value has a spec, and its reads are at most five. -/
theorem definedOpcodeCompletes : Obligations.DefinedOpcodeCompletes := by
  refine fun s => ⟨fun hop => ?_, step_of_undefined⟩
  obtain ⟨spec, hlookup⟩ := lookup_of_defined _ hop
  exact ⟨_, _, step_of_lookup hlookup, rfl, rfl, List.length_pos_iff.mpr (blockReads_ne_nil _ _ _),
    length_blockReads_le ..⟩

/-- Settles O16: the first step changed no input, so the second latches the same record again. -/
theorem stepIsIdempotent : Obligations.StepIsIdempotent := by
  intro s t hstep
  obtain ⟨spec, hlookup⟩ := lookup_of_step_next hstep
  rw [step_of_lookup hlookup] at hstep
  cases hstep
  exact step_of_lookup (s := s.latch _ _) hlookup

/-! ## The footprint of an evaluation (R165) -/

theorem Memory.agreeOn_cons {m m' : Memory} {a : Addr} {addresses : List Addr} :
    Memory.AgreeOn (a :: addresses) m m' ↔
      m.read a = m'.read a ∧ Memory.AgreeOn addresses m m' :=
  List.forall_mem_cons

theorem rd16_congr {m m' : Memory} {lo hi : Addr} (hlo : m.read lo = m'.read lo)
    (hhi : m.read hi = m'.read hi) : rd16 m lo hi = rd16 m' lo hi := by
  rw [rd16, rd16, hlo, hhi]

section
variable {mode : Mode} {pc : Addr} {x : Byte} {m m' : Memory}

/-- For given operand bytes the resolver depends on the pointer bytes alone. -/
theorem resolveWith_congr {b1 b2 : Byte}
    (hagree : Memory.AgreeOn (resolverReads mode b1 b2 pc x) m m') (y : Byte) :
    resolveWith mode b1 b2 pc x y m = resolveWith mode b1 b2 pc x y m' := by
  cases mode with
  | indirect =>
    simp only [resolverReads, Memory.agreeOn_cons] at hagree
    obtain ⟨-, -, hlo, hhi, -⟩ := hagree
    rw [resolveWith, resolveWith, rd16_congr hlo hhi]
  | indirectX | indirectY =>
    simp only [resolverReads, Memory.agreeOn_cons] at hagree
    obtain ⟨-, hlo, hhi, -⟩ := hagree
    rw [resolveWith, resolveWith, zeroPageWord, zeroPageWord, rd16_congr hlo hhi]
  | _ => rfl

/-- The operand bytes a mode uses are among its reads; the literal of Immediate, which is not read, is not
used either (R140). -/
theorem operand_congr (hagree : Memory.AgreeOn
      (resolverReads mode (m.read (pc + 1#16)) (m.read (pc + 2#16)) pc x) m m') (y : Byte)
    (n : Memory) :
    resolveWith mode (m'.read (pc + 1#16)) (m'.read (pc + 2#16)) pc x y n =
        resolveWith mode (m.read (pc + 1#16)) (m.read (pc + 2#16)) pc x y n ∧
      resolverReads mode (m'.read (pc + 1#16)) (m'.read (pc + 2#16)) pc x =
        resolverReads mode (m.read (pc + 1#16)) (m.read (pc + 2#16)) pc x := by
  cases mode with
  | accumulator | implied | immediate => exact ⟨rfl, rfl⟩
  | zeropage | zeropageX | zeropageY | relative | indirectX | indirectY =>
    obtain ⟨hfirst, -⟩ := Memory.agreeOn_cons.mp hagree
    rw [hfirst]
    exact ⟨rfl, rfl⟩
  | absolute | absoluteX | absoluteY | indirect =>
    obtain ⟨hfirst, hagree⟩ := Memory.agreeOn_cons.mp hagree
    obtain ⟨hsecond, -⟩ := Memory.agreeOn_cons.mp hagree
    rw [hfirst, hsecond]
    exact ⟨rfl, rfl⟩

/-- The resolver answers and reads the same over every memory that agrees on what it reads. -/
theorem resolve_congr (hagree : Memory.AgreeOn
      (resolverReads mode (m.read (pc + 1#16)) (m.read (pc + 2#16)) pc x) m m') (y : Byte) :
    resolve mode pc x y m' = resolve mode pc x y m ∧
      resolverReads mode (m'.read (pc + 1#16)) (m'.read (pc + 2#16)) pc x =
        resolverReads mode (m.read (pc + 1#16)) (m.read (pc + 2#16)) pc x := by
  obtain ⟨hresolve, hreads⟩ := operand_congr hagree y m'
  exact ⟨hresolve.trans (resolveWith_congr hagree y).symm, hreads⟩

end

/-- Settles O18: the opcode byte is read first, and what it selects is resolved from the bytes read. -/
theorem outcomeDependsOnlyOnBytesRead : Obligations.OutcomeDependsOnlyOnBytesRead := by
  rintro s ⟨pc, x, y, bt, m', out, reads⟩ rfl rfl rfl rfl hagree
  by_cases hop : s.mem.read s.pc ∈ undefinedOpcodes
  · rw [blockReads_of_undefined hop] at hagree
    obtain ⟨hopcode, -⟩ := Memory.agreeOn_cons.mp hagree
    refine .inl ⟨_, step_of_undefined hop, ?_⟩
    rw [hopcode] at hop ⊢
    exact step_of_undefined hop
  · obtain ⟨spec, hlookup⟩ := lookup_of_defined _ hop
    rw [blockReads_of_lookup hlookup] at hagree
    obtain ⟨hopcode, hagree⟩ := Memory.agreeOn_cons.mp hagree
    obtain ⟨hresolve, hreads⟩ := resolve_congr hagree s.y
    have hlookup' : lookup (m'.read s.pc) = .ok spec := hopcode ▸ hlookup
    refine .inr ⟨_, _, step_of_lookup hlookup, step_of_lookup hlookup', ?_, ?_, rfl⟩
    · simp only [State.latch_out, hresolve, hopcode]
    · simp only [State.latch_busReads, blockReads_of_lookup hlookup, blockReads_of_lookup hlookup',
        hreads]

end Sys2Proof.Machine
end

section
/-!
PROOFS. The record of a completed step: when its address is absent (R164), and its cycle total by class
(R160, R162, R167).
-/
namespace Sys2Proof.Machine

/-- The record of a step that completes is that of the spec at `PC` and of the resolver (R163). -/
theorem record_of_step {s t : State} {d : DecodedInstruction} (hstep : step s = .next t)
    (hout : t.out = some d) :
    ∃ spec, lookup (s.mem.read s.pc) = .ok spec ∧
      d = decodedRecord (s.mem.read s.pc) spec (resolve spec.mode s.pc s.x s.y s.mem) s.bt := by
  obtain ⟨spec, hlookup⟩ := lookup_of_step_next hstep
  rw [step_of_lookup hlookup] at hstep
  cases hstep
  exact ⟨spec, hlookup, (Option.some.inj hout).symm⟩

/-- Settles O41: the address is the one the resolver answers for the spec's mode. -/
theorem addressAbsentExactly : Obligations.AddressAbsentExactly := by
  intro s t d hstep hout
  obtain ⟨spec, -, rfl⟩ := record_of_step hstep hout
  exact resolve_ea_eq_none_iff spec.mode s.pc s.x s.y s.mem

/-- The extras of the classes as one sum (R160 to R162). -/
theorem totalCycles_eq_sum (spec : InstructionSpec) (bt px : Bool) :
    totalCycles spec bt px = spec.baseCycles +
      (if spec.cls = .branch ∧ bt = true then 1 else 0) +
      (if spec.cls = .branch ∧ bt = true ∧ px = true then 1 else 0) +
      (if spec.cls = .pageCross ∧ px = true then 1 else 0) := by
  rw [totalCycles]
  cases spec.cls with
  | none => simp [extras]
  | pageCross => simp [extras]
  | branch => simp [extras, Nat.add_assoc]

/-- Settles O43: the recorded total is the spec's for the recorded crossing. -/
theorem cycleTotalRule : Obligations.CycleTotalRule := by
  intro s t d hstep hout
  obtain ⟨spec, -, rfl⟩ := record_of_step hstep hout
  exact totalCycles_eq_sum spec s.bt _

/-- Class none owes no extra cycle (R76). -/
theorem totalCycles_of_none {spec : InstructionSpec} (hcls : spec.cls = .none) (bt px : Bool) :
    totalCycles spec bt px = spec.baseCycles := by
  rw [totalCycles, hcls]
  rfl

/-- The base count of a page-cross penalty opcode goes with its mode (R75, R167). -/
theorem mode_baseCycles_of_pageCross {op : Byte} {spec : InstructionSpec}
    (hlookup : lookup op = .ok spec) (hcls : spec.cls = .pageCross) :
    ((spec.mode = .absoluteX ∨ spec.mode = .absoluteY) ∧ spec.baseCycles = 4) ∨
      (spec.mode = .indirectY ∧ spec.baseCycles = 5) :=
  of_decide_eq_true (lookup_forall
    (P := fun _ spec => decide (spec.cls = .pageCross →
      ((spec.mode = .absoluteX ∨ spec.mode = .absoluteY) ∧ spec.baseCycles = 4) ∨
        (spec.mode = .indirectY ∧ spec.baseCycles = 5))) (by decide) op spec hlookup) hcls

/-- A page-cross penalty opcode takes its mode's base count or one cycle more (R162, R167). -/
theorem totalCycles_of_pageCross_lookup {op : Byte} {spec : InstructionSpec}
    (hlookup : lookup op = .ok spec) (hcls : spec.cls = .pageCross) (bt px : Bool) :
    ((spec.mode = .absoluteX ∨ spec.mode = .absoluteY) ∧
        (totalCycles spec bt px = 4 ∨ totalCycles spec bt px = 5)) ∨
      (spec.mode = .indirectY ∧ (totalCycles spec bt px = 5 ∨ totalCycles spec bt px = 6)) := by
  rw [totalCycles_of_pageCross hcls]
  obtain ⟨hmode, hbase⟩ | ⟨hmode, hbase⟩ := mode_baseCycles_of_pageCross hlookup hcls
  · exact .inl ⟨hmode, by rw [hbase]; cases px <;> simp⟩
  · exact .inr ⟨hmode, by rw [hbase]; cases px <;> simp⟩

/-- A branch takes two cycles and at most two more (R161, R167). -/
theorem totalCycles_of_branch_lookup {op : Byte} {spec : InstructionSpec}
    (hlookup : lookup op = .ok spec) (hcls : spec.cls = .branch) (bt px : Bool) :
    totalCycles spec bt px = 2 ∨ totalCycles spec bt px = 3 ∨ totalCycles spec bt px = 4 := by
  obtain ⟨-, hbranch⟩ := branchClassIsExactlyEight op spec hlookup
  obtain ⟨-, -, hbase⟩ := hbranch hcls
  have hbounds := totalCycles_bounds spec bt px
  omega

/-- BRK and the six read-modify-write rows in mode AbsoluteX (R167). -/
def sevenCycleOpcodes : List Byte := [0x00#8, 0x1E#8, 0x3E#8, 0x5E#8, 0x7E#8, 0xDE#8, 0xFE#8]

/-- The ROM gives the base count 7 to these opcode values and to no other. -/
theorem baseCycles_eq_seven_iff {op : Byte} {spec : InstructionSpec} (hlookup : lookup op = .ok spec) :
    spec.baseCycles = 7 ↔ op ∈ sevenCycleOpcodes :=
  of_decide_eq_true (lookup_forall
    (P := fun op spec => decide (spec.baseCycles = 7 ↔ op ∈ sevenCycleOpcodes)) (by decide)
    op spec hlookup)

/-- An opcode that can owe an extra cycle never reaches 7, so a total of 7 is a base count (R167). -/
theorem totalCycles_eq_seven_iff {op : Byte} {spec : InstructionSpec} (hlookup : lookup op = .ok spec)
    (bt px : Bool) : totalCycles spec bt px = 7 ↔ spec.baseCycles = 7 := by
  have hbounds := totalCycles_bounds spec bt px
  cases hcls : spec.cls with
  | none => rw [totalCycles_of_none hcls]
  | pageCross =>
    have htotal := totalCycles_of_pageCross_lookup hlookup hcls bt px
    omega
  | branch =>
    have htotal := totalCycles_of_branch_lookup hlookup hcls bt px
    omega

/-- Settles O44, class by class. -/
theorem cycleTotalRange : Obligations.CycleTotalRange := by
  intro s t d hstep hout
  obtain ⟨spec, hlookup, rfl⟩ := record_of_step hstep hout
  have hok := decodedRecord_ok hlookup s.pc s.x s.y s.bt s.mem
  obtain ⟨hbase, -⟩ := hok.base
  obtain ⟨htotal, hmax⟩ := hok.total
  exact ⟨hbase.trans htotal, hmax, fun hcls => totalCycles_of_none hcls ..,
    fun hcls => totalCycles_of_pageCross_lookup hlookup hcls ..,
    fun hcls => totalCycles_of_branch_lookup hlookup hcls ..,
    (totalCycles_eq_seven_iff hlookup ..).trans (baseCycles_eq_seven_iff hlookup)⟩

end Sys2Proof.Machine
end

section
/-!
PROOFS. The state a run begins in (R185, R186): no evaluation has been made, and memory lists nothing.
-/
namespace Sys2Proof.Machine

/-- Settles O20: memory is canonical, and without a record there is nothing to check. -/
theorem resetHasInvariant : Obligations.ResetHasInvariant where
  memory := State.reset_mem_wf
  output := nofun
  reads := rfl

/-- Settles O21: every address reads as an unlisted one does. -/
theorem resetState : Obligations.ResetState :=
  ⟨State.reset_out, State.reset_busReads, State.reset_pc, State.reset_x, State.reset_y, State.reset_bt,
    fun a => Memory.find_nil a.toNat⟩

end Sys2Proof.Machine
end
